-- ==== Sys2Proof/Word.lean ====
section
/-! DEFINITION. The widths the spec names (10_state.md §2, 30_encoding.md R80): every value the block
shifts, splits or compares is an unsigned bit vector, bit 0 the least significant (R10). -/

namespace Sys2Proof

/-- A byte: addresses and data of the control bus, bytes of the pixel bus, status codes (`W_STATUS` = 8, R6). -/
abbrev Byte := BitVec 8

/-- An opcode: `W[3:0]` of the command word (R80). -/
abbrev Opcode := BitVec 4

/-- A 32-bit count of microseconds or milliseconds (`W_EXP` = 32, R6; `CB_TMO_MS`, R45). -/
abbrev Count32 := BitVec 32

/-- A word of the pixel buffer (`W_PIX` = 16, R6, R58). -/
abbrev PixWord := BitVec 16

/-- An index of the pixel buffer (R58: a 10-bit index). -/
abbrev PixIndex := BitVec 10

/-- A command word: one 64-bit parallel value, never split into bytes (R66, R80). -/
abbrev CmdWord := BitVec 64

end Sys2Proof
end

