-- ==== Sys2Proof/Config.lean ====
section
/-! DEFINITION. The implementation parameters of 00_scope.md R6, one name each, and the two values the
spec leaves open: the clock rate and what a pixel-buffer word holds before any capture wrote it. -/

namespace Sys2Proof.Config

/-- One less than `P_CYC_PER_US`. FREE VALUE (assumption 1): the spec gives the clock rate no value
(R6 OPEN, D2, I15), so this constant has no body and no proof can know it. -/
opaque cycPerUsPred : Nat

/-- `P_CYC_PER_US`: core clock cycles per microsecond, a natural number of at least 1 (R6). -/
def cycPerUs : Nat := cycPerUsPred + 1

/-- What a word of PIXBUF holds at launch. FREE VALUE (assumption 2): "any value" (R58, I17), a function
of the index with no body. -/
opaque pixbufLaunch : Nat → PixWord

/-- `N_PIX`: pixels stored per capture (R6). -/
def nPix : Nat := 1024

/-- `N_DISCARD`: leading sample pairs discarded per capture (R6, R7). -/
def nDiscard : Nat := 4

/-- `T_PU_SETTLE_US`: the power-up settle wait (R6, R105). -/
def tPuSettleUs : Count32 := 12

/-- `T_EXP_MIN_US`: the shutter hold used when the exposure operand is 0 (R6, R87). -/
def tExpMinUs : Count32 := 1

/-- `T_STROBE_US`: the read-strobe pulse before readout (R6, R137). -/
def tStrobeUs : Count32 := 1

/-- `T_ADC_SETTLE_US`: the ADC pipeline settle after that pulse (R6, R139). -/
def tAdcSettleUs : Count32 := 2

/-- `CB_TIMEOUT_MS`: the timeout passed with register reads and writes (R6). -/
def cbTimeoutMs : Count32 := 100

/-- `CB_RESET_TIMEOUT_MS`: the timeout passed with the reset broadcast (R6, D19). -/
def cbResetTimeoutMs : Count32 := 100

/-- `REV_REG`: the sensor register that holds the chip revision (R6, R61). -/
def revReg : Byte := 0xFF

/-- `GC_ADDR`: the control-bus broadcast address (R6, R62). -/
def gcAddr : Byte := 0x00

/-- `GC_RESET_CMD`: the command byte of the reset broadcast (R6). -/
def gcResetCmd : Byte := 0x06

end Sys2Proof.Config
end

