-- ==== Sys2Proof/Syntax.lean ====
section
/-! DEFINITION. The command set: one constructor per row of spec/opcode_table.json, in the table's order. -/

namespace Sys2Proof

/-- A command as the decoder hands it on. Every constructor carries the three fields of CMD64 (30_encoding.md
R80): `a` = W[15:8], `v` = W[23:16], `e` = W[63:32], because acceptance latches all three into CMD_A, CMD_V
and CMD_E whatever the opcode (40_sequencer.md R99), although a command reads only the ones R85 gives it.
The reserved fields W[7:4] and W[31:24] reach no register (R84) and are not part of a command. -/
inductive Instr where
  /-- INIT, opcode 0x1: operand `a[6:0]`, the un-shifted device address (R81, R115). -/
  | init (a v : Byte) (e : Count32)
  /-- CAPTURE, opcode 0x2: operand `e`, the exposure in microseconds (R83, R130). -/
  | capture (a v : Byte) (e : Count32)
  /-- GETREV, opcode 0x3: no operand (R126). -/
  | getrev (a v : Byte) (e : Count32)
  /-- RDREG, opcode 0x4: operand `a`, the register address (R81, R123). -/
  | rdreg (a v : Byte) (e : Count32)
  /-- WRREG, opcode 0x5: operands `a`, the register address, and `v`, the byte written (R82, R124). -/
  | wrreg (a v : Byte) (e : Count32)
  /-- RESET, opcode 0x6: no operand (R125). -/
  | reset (a v : Byte) (e : Count32)
  /-- ILLEGAL, the reserved opcode 0x0 (R89, R127). -/
  | illegalZero (a v : Byte) (e : Count32)
  /-- ILLEGAL, the reserved opcode 0x7 (R89, R127). -/
  | illegalSeven (a v : Byte) (e : Count32)
  /-- ILLEGAL, the reserved opcodes 0x8..0xF: `op` is the raw opcode, which the response echoes (R95, R127). -/
  | illegalHigh (op : Opcode) (a v : Byte) (e : Count32)
  deriving DecidableEq, Repr

end Sys2Proof
end

