-- ==== Sys2Proof/WellFormed.lean ====
section
/-! DEFINITION. Which terms of `Instr` are commands of the hardware. -/

namespace Sys2Proof

/-- A command is well formed when its constructor and the opcode it carries agree: `illegalHigh` stands for the
opcodes with bit 3 set (the table's row with match 0x8 and mask 0x8, R89). Every other constructor fixes its
opcode, and every value of its fields is legal (R81 to R84), so nothing else is checked: the block ignores
non-zero reserved and unused fields, and so does this model (assumption 3). -/
def WellFormed : Instr → Bool
  | .init _ _ _ => true
  | .capture _ _ _ => true
  | .getrev _ _ _ => true
  | .rdreg _ _ _ => true
  | .wrreg _ _ _ => true
  | .reset _ _ _ => true
  | .illegalZero _ _ _ => true
  | .illegalSeven _ _ _ => true
  | .illegalHigh op _ _ _ => op.getLsbD 3

end Sys2Proof
end

