-- ==== Sys2Proof/Decode.lean ====
section
/-! DEFINITION. The decoder (30_encoding.md §1, §2), then the encoder written from the same layout, then the
assembler (30_encoding.md §4). -/

namespace Sys2Proof

/-! ## The fields of CMD64 (R80) -/

/-- OP = W[3:0]. -/
def opOf (w : CmdWord) : Opcode := w.extractLsb' 0 4

/-- A = W[15:8]. -/
def aOf (w : CmdWord) : Byte := w.extractLsb' 8 8

/-- V = W[23:16]. -/
def vOf (w : CmdWord) : Byte := w.extractLsb' 16 8

/-- E = W[63:32]. -/
def eOf (w : CmdWord) : Count32 := w.extractLsb' 32 32

/-- The opcode map of R85: the command an opcode and the three fields make. Total: the reserved opcodes 0x0 and
0x7..0xF are the ILLEGAL commands (R89). -/
def commandOf (op : Opcode) (a v : Byte) (e : Count32) : Instr :=
  if op = 0x0#4 then .illegalZero a v e
  else if op = 0x1#4 then .init a v e
  else if op = 0x2#4 then .capture a v e
  else if op = 0x3#4 then .getrev a v e
  else if op = 0x4#4 then .rdreg a v e
  else if op = 0x5#4 then .wrreg a v e
  else if op = 0x6#4 then .reset a v e
  else if op = 0x7#4 then .illegalSeven a v e
  else .illegalHigh op a v e

/-- The decoder: total on 64-bit words, by W[3:0] alone (R90). The reserved fields W[7:4] and W[31:24] are
not read (R84). -/
def decode (w : CmdWord) : Instr := commandOf (opOf w) (aOf w) (vOf w) (eOf w)

/-- The decoder on a word numbered as spec/opcode_table.json numbers its bits (bit 0 the least significant of the
one 64-bit word), the bits from `nbits` up being 0. A command is exactly 64 bits (R90), so a longer one is none. -/
def decodeTableWord (nbits w : Nat) : Option Instr :=
  if nbits ≤ 64 then some (decode (BitVec.ofNat 64 (w % 2 ^ nbits))) else none

/-! ## The encoder -/

/-- The opcode of a command (R85); the reserved opcodes above 7 are carried raw. -/
def Instr.op : Instr → Opcode
  | .init _ _ _ => 0x1#4
  | .capture _ _ _ => 0x2#4
  | .getrev _ _ _ => 0x3#4
  | .rdreg _ _ _ => 0x4#4
  | .wrreg _ _ _ => 0x5#4
  | .reset _ _ _ => 0x6#4
  | .illegalZero _ _ _ => 0x0#4
  | .illegalSeven _ _ _ => 0x7#4
  | .illegalHigh op _ _ _ => op

/-- Field A of a command. -/
def Instr.a : Instr → Byte
  | .init a _ _ => a
  | .capture a _ _ => a
  | .getrev a _ _ => a
  | .rdreg a _ _ => a
  | .wrreg a _ _ => a
  | .reset a _ _ => a
  | .illegalZero a _ _ => a
  | .illegalSeven a _ _ => a
  | .illegalHigh _ a _ _ => a

/-- Field V of a command. -/
def Instr.v : Instr → Byte
  | .init _ v _ => v
  | .capture _ v _ => v
  | .getrev _ v _ => v
  | .rdreg _ v _ => v
  | .wrreg _ v _ => v
  | .reset _ v _ => v
  | .illegalZero _ v _ => v
  | .illegalSeven _ v _ => v
  | .illegalHigh _ _ v _ => v

/-- Field E of a command. -/
def Instr.e : Instr → Count32
  | .init _ _ e => e
  | .capture _ _ e => e
  | .getrev _ _ e => e
  | .rdreg _ _ e => e
  | .wrreg _ _ e => e
  | .reset _ _ e => e
  | .illegalZero _ _ e => e
  | .illegalSeven _ _ e => e
  | .illegalHigh _ _ _ e => e

/-- The layout of CMD64, field by field from bit 63 down to bit 0 (R80), the reserved fields 0. -/
def wordOf (op : Opcode) (a v : Byte) (e : Count32) : CmdWord :=
  e ++ 0#8 ++ v ++ a ++ 0#4 ++ op

/-- The word of a command, its reserved fields 0. -/
def encode (i : Instr) : CmdWord := wordOf i.op i.a i.v i.e

/-! ## The assembler (R91) -/

/-- The six forms of the assembler, operands as the numbers written. -/
inductive AsmForm where
  | init (addr7 : Nat)
  | capture (expUs : Nat)
  | getrev
  | rdreg (reg : Nat)
  | wrreg (reg val : Nat)
  | reset
  deriving DecidableEq, Repr

/-- The "encoding W" column of R91, with the "operand range" column as the check: an operand outside its range is
refused. -/
def assemble : AsmForm → Option CmdWord
  | .init addr7 => if addr7 ≤ 127 then some (BitVec.ofNat 64 ((addr7 <<< 8) ||| 0x1)) else none
  | .capture expUs => if expUs ≤ 4294967295 then some (BitVec.ofNat 64 ((expUs <<< 32) ||| 0x2)) else none
  | .getrev => some 0x3#64
  | .rdreg reg => if reg ≤ 255 then some (BitVec.ofNat 64 ((reg <<< 8) ||| 0x4)) else none
  | .wrreg reg val =>
    if reg ≤ 255 ∧ val ≤ 255 then some (BitVec.ofNat 64 ((val <<< 16) ||| (reg <<< 8) ||| 0x5)) else none
  | .reset => some 0x6#64

/-- What one line of assembler text gives. -/
inductive AsmLine where
  /-- nothing to assemble: an empty line or a comment alone -/
  | blank
  /-- one command word -/
  | word (w : CmdWord)
  /-- the assembler refuses the line -/
  | refused
  deriving DecidableEq, Repr

/-- A blank character of a line (assumption 4). -/
def isBlank (c : Char) : Bool := c == ' ' || c == '\t' || c == '\n' || c == '\r'

/-- The value of a digit in either base, 16 and up for no digit. -/
def digitValue (c : Char) : Nat :=
  if 48 ≤ c.toNat ∧ c.toNat ≤ 57 then c.toNat - 48
  else if 97 ≤ c.toNat ∧ c.toNat ≤ 102 then c.toNat - 87
  else if 65 ≤ c.toNat ∧ c.toNat ≤ 70 then c.toNat - 55
  else 16

/-- A run of digits after the value `acc` read so far. -/
def digits (base acc : Nat) : List Char → Option Nat
  | [] => some acc
  | c :: cs => if digitValue c < base then digits base (acc * base + digitValue c) cs else none

/-- A number: decimal, or hexadecimal with the prefix `0x` (R91). -/
def number : List Char → Option Nat
  | [] => none
  | '0' :: 'x' :: c :: cs => digits 16 0 (c :: cs)
  | c :: cs => digits 10 0 (c :: cs)

/-- A run of characters without the blanks at its two ends. -/
def trim (cs : List Char) : List Char :=
  ((cs.dropWhile isBlank).reverse.dropWhile isBlank).reverse

/-- The parts of a line between commas. -/
def splitCommas : List Char → List (List Char)
  | [] => [[]]
  | c :: cs =>
    if c = ',' then [] :: splitCommas cs
    else
      match splitCommas cs with
      | [] => [[c]]
      | part :: parts => (c :: part) :: parts

/-- The operands after a mnemonic: none, or numbers separated by commas (R91). -/
def operands (cs : List Char) : Option (List Nat) :=
  if trim cs = [] then some [] else (splitCommas cs).mapM fun part => number (trim part)

/-- The form a mnemonic and its operands make, if R91 has one. -/
def asmForm (mnemonic : List Char) (ops : List Nat) : Option AsmForm :=
  match ops with
  | [] =>
    if mnemonic = ['G', 'E', 'T', 'R', 'E', 'V'] then some .getrev
    else if mnemonic = ['R', 'E', 'S', 'E', 'T'] then some .reset
    else none
  | [x] =>
    if mnemonic = ['I', 'N', 'I', 'T'] then some (.init x)
    else if mnemonic = ['C', 'A', 'P', 'T', 'U', 'R', 'E'] then some (.capture x)
    else if mnemonic = ['R', 'D', 'R', 'E', 'G'] then some (.rdreg x)
    else none
  | [x, y] => if mnemonic = ['W', 'R', 'R', 'E', 'G'] then some (.wrreg x y) else none
  | _ => none

/-- One line of assembler text: `;` starts a comment; a mnemonic, then operands separated by commas (R91). -/
def asmLine (line : List Char) : AsmLine :=
  let text := trim (line.takeWhile fun c => c != ';')
  if text = [] then .blank
  else
    match (do
      let ops ← operands (text.dropWhile fun c => !isBlank c)
      let form ← asmForm (text.takeWhile fun c => !isBlank c) ops
      assemble form) with
    | some w => .word w
    | none => .refused

end Sys2Proof
end

