-- ==== Sys2Proof/Machine/State.lean ====
section
/-! DEFINITION. The state of the block and of its interface cells as plain data (10_state.md), the reasons a step
can stop, and the state right after reset. -/

namespace Sys2Proof.Machine

/-- The 28 states of the register STATE (30_encoding.md R93). The unused codes name no state (R94). -/
inductive Fsm where
  | idle | initBind | initCfg | puDrive | puWait | cbIssue | cbWait
  | expOpen | expHold | expClose | expWaitDrdy
  | rdStrobeHi | rdStrobeWait | rdStrobeLo | rdSettle | rdLock | rdLockWait
  | pxCsLo | pxXferStart | pxStrobeHi | pxWaitMsb | pxStrobeLo | pxWaitLsb | pxCsHi | pxCommit
  | rdUnlock | pwrDown | respond
  deriving DecidableEq, Repr

/-- The three kinds of control-bus transaction: MEMREAD, MEMWRITE, TRANSMIT (R45). -/
inductive CbKind where
  | memRead | memWrite | transmit
  deriving DecidableEq, Repr

/-- An event of the observation history. -/
inductive Event where
  /-- the write event `(i, v)` of `MemWrite(PIXBUF, i, v)` (R59) -/
  | pixWrite (i : PixIndex) (v : PixWord)
  /-- the response event of RESPOND (R111) -/
  | response (op : Opcode) (status value : Byte) (count : BitVec 11) (illegal : Bool)
  deriving DecidableEq, Repr

/-- One step of an environment agent, with the values it draws (R8, R9). -/
inductive EnvStep where
  /-- HOST posts a command word (R40, R50 (a)). -/
  | hostPost (w : CmdWord)
  /-- HOST reads a word of PIXBUF (R50 (b)). -/
  | hostReadPix (i : PixIndex)
  /-- HOST reads the registers of R56 (R50 (c)). -/
  | hostReadRegs
  /-- HOST drives the block's reset input (R50 (d), R182). -/
  | hostRst (level : Bool)
  /-- SENSOR drives DATA_RDY (R44). -/
  | sensor (level : Bool)
  /-- PIXBUS clocks one byte, the drawn `b` coming in (R43). -/
  | pixbus (b : Byte)
  /-- CBUS answers the posted request with a drawn status and byte (R47). -/
  | cbus (status rdata : Byte)
  /-- CBUS answers a request that a reset removed from the mailbox (R183, R198). -/
  | cbusLate (status rdata : Byte)
  /-- ARBITER grants the pixel-bus lock (R48). -/
  | grant
  /-- ARBITER takes the grant back (R48). -/
  | release
  deriving DecidableEq, Repr

/-- Whose step comes next (R8). -/
inductive Turn where
  /-- one core step: one clock edge of the block (R96) -/
  | core
  /-- one step of an environment agent -/
  | env (e : EnvStep)
  deriving DecidableEq, Repr

/-- The state. One field per register of 10_state.md §2 and per cell of §3; the reset input;
PIXBUF; the observation history; and two fields of the model's own, so marked. -/
structure State where
  /-- STATE (R22) -/
  fsm : Fsm
  /-- CMD_OP (R23) -/
  cmdOp : Opcode
  /-- CMD_A (R23) -/
  cmdA : Byte
  /-- CMD_V (R23) -/
  cmdV : Byte
  /-- CMD_E (R23) -/
  cmdE : Count32
  /-- CB_DEVADDR (R24) -/
  cbDevaddr : Byte
  /-- REVISION (R25) -/
  revision : Byte
  /-- PB_RXTH (R26) -/
  pbRxth : Bool
  /-- PB_EN (R26) -/
  pbEn : Bool
  /-- output line PD, 1 disables the sensor (R27) -/
  pd : Bool
  /-- output line CLR_DATA (R28) -/
  clrData : Bool
  /-- output line CLR_PIX (R28) -/
  clrPix : Bool
  /-- output line SHUTTER, 1 is open (R29) -/
  shutter : Bool
  /-- output line READ, the read strobe (R30) -/
  read : Bool
  /-- output line ADC_CS_N at its electrical level, 0 is selected (R12, R31) -/
  adcCsN : Bool
  /-- DLY_US: microseconds still to wait (R32) -/
  dlyUs : Count32
  /-- DLY_PRE: clock cycles still to wait in this microsecond, a natural number below P_CYC_PER_US (R32) -/
  dlyPre : Nat
  /-- MSB (R33) -/
  msb : Byte
  /-- LSB (R33) -/
  lsb : Byte
  /-- DISC_CNT (R34) -/
  discCnt : BitVec 3
  /-- PIX_CNT (R35) -/
  pixCnt : BitVec 11
  /-- LOCK_REQ (R36) -/
  lockReq : Bool
  /-- RES_STATUS (R37) -/
  resStatus : Byte
  /-- RES_VALUE (R37) -/
  resValue : Byte
  /-- RES_COUNT (R37) -/
  resCount : BitVec 11
  /-- RES_ILLEGAL (R37) -/
  resIllegal : Bool
  /-- RESP_VALID (R38) -/
  respValid : Bool
  /-- RESP_OP (R38) -/
  respOp : Opcode
  /-- RESP_STATUS (R38) -/
  respStatus : Byte
  /-- RESP_VALUE (R38) -/
  respValue : Byte
  /-- RESP_COUNT (R38) -/
  respCount : BitVec 11
  /-- RESP_ILLEGAL (R38) -/
  respIllegal : Bool
  /-- CB_REQ (R45) -/
  cbReq : Bool
  /-- CB_KIND (R45) -/
  cbKind : CbKind
  /-- CB_DEV (R45) -/
  cbDev : Byte
  /-- CB_REG (R45) -/
  cbReg : Byte
  /-- CB_DATA (R45) -/
  cbData : Byte
  /-- CB_TMO_MS (R45) -/
  cbTmoMs : Count32
  /-- CMD_VALID (R40) -/
  cmdValid : Bool
  /-- CMD_WORD (R40) -/
  cmdWord : CmdWord
  /-- PB_TXPEND: bytes queued for transmission and not yet clocked (R41) -/
  pbTxpend : Nat
  /-- PB_RXQ: bytes clocked in and not yet read, the head first (R41) -/
  pbRxq : List Byte
  /-- DATA_RDY (R44) -/
  dataRdy : Bool
  /-- CB_RSP: `none`, or a status and a read byte (R45) -/
  cbRsp : Option (Byte × Byte)
  /-- LOCK_GNT (R48) -/
  lockGnt : Bool
  /-- the reset input `rst` at its level (R182) -/
  rst : Bool
  /-- PIXBUF: the words written so far, by strictly rising index (R58; assumptions 2 and 5) -/
  pixbuf : List (Nat × PixWord)
  /-- MODEL'S OWN: a request that a reset removed may still be answered by CBUS (R183; assumption 6) -/
  cbLate : Bool
  /-- the observation history, newest event first (R59, R111; assumption 7) -/
  history : List Event
  /-- MODEL'S OWN: the steps that come next, in order; CORE's when it is empty (R8, R9; assumption 8) -/
  schedule : List Turn
  deriving DecidableEq, Repr

/-- Why the machine stops with a fault. The block itself has no fault (R170): each of these stands at a pair of
STATE and command that no step from a state meeting `Safety.BlockInv` reaches, and for which the spec gives no rule. -/
inductive Fault where
  /-- Raised by `stateRule` in PU_WAIT when the timer has run out, for a command with no body: GETREV and ILLEGAL ("No
  other opcode reaches PU_WAIT", R106). Safe: the model stops where the spec gives no successor. -/
  | puWaitNoBody
  /-- Raised by `stateRule` in CB_ISSUE, for a command with no row in R118's table: CAPTURE, GETREV and ILLEGAL.
  Safe: the spec gives no request. -/
  | cbIssueNoRequest
  deriving DecidableEq, Repr

/-- Why the model refuses a step. -/
inductive Refusal where
  /-- An instruction without a meaning. No arm of `exec` raises it. Safe. -/
  | notModelled (mnemonic : String)
  /-- Raised by `execCapture` when a CAPTURE is accepted while PB_EN or PB_RXTH is 0: "A model must refuse a CAPTURE
  accepted with the pixel bus unconfigured" (R161). Safe: no claim is made about the case. -/
  | captureUnconfigured
  /-- Raised by `hostPost` while CMD_VALID is 1: HOST has no such step (R40, R193, I20). Safe. -/
  | hostPostWhileValid
  /-- Raised by `pixbusByte` while PIXBUS is not enabled (R43). Safe: PIXBUS has no such step. -/
  | pixbusNotEnabled
  /-- Raised by `cbusAnswer` while CBUS is not enabled (R47). Safe: CBUS has no such step. -/
  | cbusNotEnabled
  /-- Raised by `cbusLateAnswer` while no removed request is open or CB_RSP is taken (R183). Safe. -/
  | cbusLateNotEnabled
  /-- Raised by `arbiterGrant` and `arbiterRelease` outside R48's conditions. Safe: ARBITER has no such step. -/
  | arbiterNotEnabled
  deriving DecidableEq, Repr

/-- What a step or a command's meaning answers. -/
abbrev Result := Host.Outcome State Fault Refusal

/-- The state after a block reset that meets the clean-launch premise: the core registers at the values of R52, the
environment's cells as R185 says; DATA_RDY, CMD_WORD and the model's own fields at the values assumption 9 names. -/
def State.reset : State where
  fsm := .idle
  cmdOp := 0
  cmdA := 0
  cmdV := 0
  cmdE := 0
  cbDevaddr := 0x00
  revision := 0x00
  pbRxth := false
  pbEn := false
  pd := true
  clrData := false
  clrPix := false
  shutter := false
  read := false
  adcCsN := true
  dlyUs := 0
  dlyPre := 0
  msb := 0
  lsb := 0
  discCnt := 0
  pixCnt := 0
  lockReq := false
  resStatus := 0
  resValue := 0
  resCount := 0
  resIllegal := false
  respValid := false
  respOp := 0
  respStatus := 0
  respValue := 0
  respCount := 0
  respIllegal := false
  cbReq := false
  cbKind := .memRead
  cbDev := 0
  cbReg := 0
  cbData := 0
  cbTmoMs := 0
  cmdValid := false
  cmdWord := 0
  pbTxpend := 0
  pbRxq := []
  dataRdy := false
  cbRsp := none
  lockGnt := false
  rst := false
  pixbuf := []
  cbLate := false
  history := []
  schedule := []

end Sys2Proof.Machine
end

