-- ==== Sys2Proof/Machine/Operands.lean ====
section
/-! DEFINITION. Operand assembly (30_encoding.md R86 to R88, 42_capture.md R154), the opcode-indexed tables of the
sequencer (40_sequencer.md R99, R100), and the codes of STATE (30_encoding.md R93, R94). -/

namespace Sys2Proof.Machine

/-- Device-address assembly: `{A[6:0], 0}` (R86). A[7] is discarded. -/
def devAddr (a : Byte) : Byte := a.extractLsb' 0 7 ++ 0#1

/-- Exposure-operand assembly: `H = (E == 0) ? T_EXP_MIN_US : E` (R87). -/
def holdUs (e : Count32) : Count32 := if e = 0 then Config.tExpMinUs else e

/-- Sample reassembly: `zext_16((zext_15(MSB) << 7) | zext_15(LSB >> 1))` (R154). -/
def sample16 (msb lsb : Byte) : PixWord :=
  (((msb.setWidth 15 : BitVec 15) <<< 7) ||| (lsb >>> 1).setWidth 15).setWidth 16

/-- The buffer index of a store: `PIX_CNT[9:0]` (R59, R150). -/
def pixIndex (pixCnt : BitVec 11) : PixIndex := pixCnt.extractLsb' 0 10

/-- Whether an opcode is one of 0x1..0x6 (R99). -/
def isCommand (op : Opcode) : Bool := 0x1#4 ≤ op && op ≤ 0x6#4

/-- `RES_STATUS` as acceptance sets it (R99). -/
def acceptStatus (op : Opcode) : Byte := if isCommand op then 0x00 else 0xFF

/-- `RES_VALUE` as acceptance sets it (R99): GETREV takes the cached revision. -/
def acceptValue (op : Opcode) (revision : Byte) : Byte := if op = 0x3#4 then revision else 0x00

/-- `dispatch(op)`: the first state of the command's body (R100). -/
def dispatch (op : Opcode) : Fsm :=
  if op = 0x1#4 then .initBind
  else if op = 0x2#4 then .puDrive
  else if op = 0x3#4 then .respond
  else if op = 0x4#4 then .puDrive
  else if op = 0x5#4 then .puDrive
  else if op = 0x6#4 then .puDrive
  else .respond

/-- The code of a state in the 5-bit register STATE (R93). -/
def fsmCode : Fsm → BitVec 5
  | .idle => 0x00
  | .initBind => 0x01
  | .initCfg => 0x02
  | .puDrive => 0x03
  | .puWait => 0x04
  | .cbIssue => 0x05
  | .cbWait => 0x06
  | .expOpen => 0x07
  | .expHold => 0x08
  | .expClose => 0x09
  | .expWaitDrdy => 0x0A
  | .rdStrobeHi => 0x0B
  | .rdStrobeWait => 0x0C
  | .rdStrobeLo => 0x0D
  | .rdSettle => 0x0E
  | .rdLock => 0x0F
  | .rdLockWait => 0x10
  | .pxCsLo => 0x11
  | .pxXferStart => 0x12
  | .pxStrobeHi => 0x13
  | .pxWaitMsb => 0x14
  | .pxStrobeLo => 0x15
  | .pxWaitLsb => 0x16
  | .pxCsHi => 0x17
  | .pxCommit => 0x18
  | .rdUnlock => 0x19
  | .pwrDown => 0x1A
  | .respond => 0x1B

/-- The states in the order of their codes (R93). -/
def fsmList : List Fsm :=
  [.idle, .initBind, .initCfg, .puDrive, .puWait, .cbIssue, .cbWait, .expOpen, .expHold, .expClose,
   .expWaitDrdy, .rdStrobeHi, .rdStrobeWait, .rdStrobeLo, .rdSettle, .rdLock, .rdLockWait, .pxCsLo,
   .pxXferStart, .pxStrobeHi, .pxWaitMsb, .pxStrobeLo, .pxWaitLsb, .pxCsHi, .pxCommit, .rdUnlock,
   .pwrDown, .respond]

/-- The state a code names; none for 0x1C..0x1F (R93, R94). -/
def fsmOfCode (c : BitVec 5) : Option Fsm := fsmList[c.toNat]?

/-- Where hardware goes from a code: a code that names no state takes `next <- PWR_DOWN` (R94). No state of the
model holds such a code, so no step calls this. -/
def fsmRecover (c : BitVec 5) : Fsm := (fsmOfCode c).getD .pwrDown

end Sys2Proof.Machine
end

