-- ==== Sys2Proof/Machine/Flags.lean ====
section
/-! DEFINITION. The status bits and views that are functions of the state: the derived outputs (R39), the
receive-ready flag (R41), the output lines (R16) and the registers the host reads (R56). The block has no
arithmetic flags (R55). -/

namespace Sys2Proof.Machine

/-- `BUSY = (STATE != IDLE)` (R39). -/
def busy (s : State) : Bool := s.fsm != .idle

/-- `CMD_READY = (STATE == IDLE)` (R39). -/
def cmdReady (s : State) : Bool := s.fsm == .idle

/-- `PB_RX_READY = (PB_RXQ != [])` (R41). -/
def pbRxReady (s : State) : Bool := !s.pbRxq.isEmpty

/-- `RES_ILLEGAL` as acceptance sets it (R99). -/
def acceptIllegal (op : Opcode) : Bool := !isCommand op

/-- The levels of the output lines (R16), ADC_CS_N at its electrical level (R12). -/
structure Lines where
  pd : Bool
  clrData : Bool
  clrPix : Bool
  shutter : Bool
  read : Bool
  adcCsN : Bool
  deriving DecidableEq, Repr

/-- The output lines of a state. -/
def lines (s : State) : Lines where
  pd := s.pd
  clrData := s.clrData
  clrPix := s.clrPix
  shutter := s.shutter
  read := s.read
  adcCsN := s.adcCsN

/-- What HOST reads of the block (R56), PIXBUF apart (`readPix`). -/
structure HostView where
  cmdValid : Bool
  cmdReady : Bool
  busy : Bool
  respValid : Bool
  respOp : Opcode
  respStatus : Byte
  respValue : Byte
  respCount : BitVec 11
  respIllegal : Bool
  deriving DecidableEq, Repr

/-- The host-visible registers of a state (R56). CB_DEVADDR, REVISION, PB_RXTH and PB_EN are not among them. -/
def hostView (s : State) : HostView where
  cmdValid := s.cmdValid
  cmdReady := cmdReady s
  busy := busy s
  respValid := s.respValid
  respOp := s.respOp
  respStatus := s.respStatus
  respValue := s.respValue
  respCount := s.respCount
  respIllegal := s.respIllegal

end Sys2Proof.Machine
end

