-- ==== Sys2Proof/Machine/Ops.lean ====
section
/-! DEFINITION. The named operations of the block: PIXBUF (20_memory.md §1), the end of a core step (R97), the delay
timer (R102, R103), the pixel-bus and control-bus primitives (10_state.md R42, R46), acceptance and response
(R99, R111), and the block reset (R182). There is no exception entry and no return from one: the block has no
exceptions, traps or interrupts (R163, R171, R173, R174). -/

namespace Sys2Proof.Machine

/-! ## PIXBUF -/

/-- The word stored at an index; none where nothing has been written since launch. -/
def Memory.read : List (Nat × PixWord) → Nat → Option PixWord
  | [], _ => none
  | (k, u) :: rest, i => if k = i then some u else Memory.read rest i

/-- The buffer with word `i` set to `v`, the list kept in rising order of index. -/
def Memory.write : List (Nat × PixWord) → Nat → PixWord → List (Nat × PixWord)
  | [], i, v => [(i, v)]
  | (k, u) :: rest, i, v =>
    if i < k then (i, v) :: (k, u) :: rest
    else if i = k then (i, v) :: rest
    else (k, u) :: Memory.write rest i v

/-- The canonical form: indexes strictly rising, each below `N_PIX`. An unlisted word reads as no stored word, so no
entry can repeat what an unlisted one reads as. -/
abbrev Memory.wf (m : List (Nat × PixWord)) : Prop :=
  m.Pairwise (fun p q => p.1 < q.1) ∧ ∀ p ∈ m, p.1 < Config.nPix

/-- What HOST reads at a word of PIXBUF (R50 (b)): the stored word, or the free value it was launched with
(I17; assumption 2). -/
def readPix (s : State) (i : PixIndex) : PixWord :=
  (Memory.read s.pixbuf i.toNat).getD (Config.pixbufLaunch i.toNat)

/-- `MemWrite(PIXBUF, i, v)`: sets word `i` and records the write event; it cannot fail (R59). -/
def memWrite (i : PixIndex) (v : PixWord) (s : State) : State :=
  { s with
    pixbuf := Memory.write s.pixbuf i.toNat v
    history := .pixWrite i v :: s.history }

/-! ## The end of a core step -/

/-- `next <- S`, with the default write `RESP_VALID <- 0` (R11, R97). -/
def goto (next : Fsm) (s : State) : State := { s with fsm := next, respValid := false }

/-- A hold: `next <- <same state>`, writing nothing but the default (R98). -/
def hold (s : State) : State := { s with respValid := false }

/-! ## The delay timer -/

/-- `Load(N)` (R102). -/
def load (n : Count32) (s : State) : State :=
  { s with dlyUs := n, dlyPre := Config.cycPerUs - 1 }

/-- `Wait(S)`, the rule of a wait state whose successor is S (R103). -/
def wait (next : Fsm) (s : State) : State :=
  if s.dlyUs = 0 then goto next s
  else if s.dlyPre = 0 then hold { s with dlyUs := s.dlyUs - 1, dlyPre := Config.cycPerUs - 1 }
  else hold { s with dlyPre := s.dlyPre - 1 }

/-! ## The pixel-bus primitives (R42) -/

/-- `TxPush16(0x0000)`: queues two zero bytes; it never waits. -/
def txPush16 (s : State) : State := { s with pbTxpend := s.pbTxpend + 2 }

/-- `RxPop()`: the head byte, removed from the queue; defined only on a non-empty queue. -/
def rxPop (s : State) : Option (Byte × State) :=
  match s.pbRxq with
  | [] => none
  | b :: rest => some (b, { s with pbRxq := rest })

/-! ## The control-bus primitives (R46) -/

/-- `CbIssue(kind, dev, reg, data, tmo)`: writes the five fields and sets CB_REQ (assumption 10). -/
def cbPost (kind : CbKind) (dev reg data : Byte) (tmo : Count32) (s : State) : State :=
  { s with cbReq := true, cbKind := kind, cbDev := dev, cbReg := reg, cbData := data, cbTmoMs := tmo }

/-- `CbTake()`: the status and byte of the answer, removed from CB_RSP; defined only when one is there. -/
def cbTake (s : State) : Option (Byte × Byte × State) :=
  match s.cbRsp with
  | none => none
  | some (status, rdata) => some (status, rdata, { s with cbRsp := none })

/-! ## Acceptance and response -/

/-- The IDLE rule for a word whose opcode and fields are given (R99): a hold while CMD_VALID is 0, else the latches, the
cleared result registers, the consumed word and `next <- dispatch(op)`. -/
def accept (op : Opcode) (a v : Byte) (e : Count32) (s : State) : State :=
  if s.cmdValid then
    goto (dispatch op)
      { s with
        cmdOp := op, cmdA := a, cmdV := v, cmdE := e
        cmdValid := false
        resCount := 0
        resStatus := acceptStatus op
        resIllegal := acceptIllegal op
        resValue := acceptValue op s.revision }
  else hold s

/-- `respond()`: copies the result registers out, presents them with RESP_VALID and records the response event
(R111). -/
def present (s : State) : State :=
  { s with
    fsm := .idle
    respOp := s.cmdOp
    respStatus := s.resStatus
    respValue := s.resValue
    respCount := s.resCount
    respIllegal := s.resIllegal
    respValid := true
    history := .response s.cmdOp s.resStatus s.resValue s.resCount s.resIllegal :: s.history }

/-! ## The block reset -/

/-- The reset step: every core register at its reset value (R52, R182). The cells the environment owns, PIXBUF and the
model's own fields stay (R183). A request it takes out of the mailbox may still be answered (R183; assumption 6). -/
def resetCore (s : State) : State :=
  { State.reset with
    cmdValid := s.cmdValid
    cmdWord := s.cmdWord
    pbTxpend := s.pbTxpend
    pbRxq := s.pbRxq
    dataRdy := s.dataRdy
    cbRsp := s.cbRsp
    lockGnt := s.lockGnt
    rst := s.rst
    pixbuf := s.pixbuf
    cbLate := s.cbLate || s.cbReq
    history := s.history
    schedule := s.schedule }

/-! ## The command a core step is about -/

/-- The command of a core step: in IDLE the posted word's, if one is posted (R99); elsewhere the one latched at
acceptance (R23, R78). -/
def currentCommand (s : State) : Option Instr :=
  match s.fsm with
  | .idle => if s.cmdValid then some (decode s.cmdWord) else none
  | _ => some (commandOf s.cmdOp s.cmdA s.cmdV s.cmdE)

end Sys2Proof.Machine
end

