-- ==== Sys2Proof/Machine/ControlBus.lean ====
section
/-! DEFINITION. The state rules of 41_control_commands.md: initialisation and the control-bus transaction. -/

namespace Sys2Proof.Machine

/-- INIT_BIND: binds the device address and drives the lines to their idle defaults (R116). -/
def initBind (s : State) : State :=
  goto .initCfg
    { s with
      cbDevaddr := devAddr s.cmdA
      pd := true, clrData := false, clrPix := false, shutter := false, read := false, adcCsN := true }

/-- INIT_CFG: both pixel-bus configuration bits in one step (R117). -/
def initCfg (s : State) : State := goto .puDrive { s with pbRxth := true, pbEn := true }

/-- CB_ISSUE: posts the request and goes to CB_WAIT (R118). -/
def cbIssue (kind : CbKind) (dev reg data : Byte) (tmo : Count32) (s : State) : State :=
  goto .cbWait (cbPost kind dev reg data tmo s)

/-- R119's case for an opcode it does not list: nothing is recorded. -/
def recordNothing (_status _rdata : Byte) (s : State) : State := s

/-- CB_WAIT: a hold while there is no answer; else takes it, records the result as the command does, and goes to
PWR_DOWN whatever the status is (R119, R122). -/
def cbWait (record : Byte → Byte → State → State) (s : State) : State :=
  match cbTake s with
  | none => hold s
  | some (status, rdata, s') => goto .pwrDown (record status rdata s')

end Sys2Proof.Machine
end

