-- ==== Sys2Proof/Machine/Exposure.lean ====
section
/-! DEFINITION. The state rules of the exposure-timing sequencer (42_capture.md §1). EXP_HOLD is `wait .expClose`. -/

namespace Sys2Proof.Machine

/-- EXP_OPEN: opens the shutter and loads the hold (R131). -/
def expOpen (s : State) : State := goto .expHold (load (holdUs s.cmdE) { s with shutter := true })

/-- EXP_CLOSE: closes the shutter (R133). -/
def expClose (s : State) : State := goto .expWaitDrdy { s with shutter := false }

/-- EXP_WAIT_DRDY: polls the level of DATA_RDY, with no timeout (R134). -/
def expWaitDrdy (s : State) : State := if s.dataRdy then goto .rdStrobeHi s else hold s

end Sys2Proof.Machine
end

