-- ==== Sys2Proof/Machine/Readout.lean ====
section
/-! DEFINITION. The state rules of the readout (42_capture.md §2 to §6): preamble, pixel cycle, discard or store, end.
RD_STROBE_WAIT is `wait .rdStrobeLo` and RD_SETTLE is `wait .rdLock`. -/

namespace Sys2Proof.Machine

/-- RD_STROBE_HI (R137). -/
def rdStrobeHi (s : State) : State :=
  goto .rdStrobeWait (load Config.tStrobeUs { s with read := true, discCnt := 0, pixCnt := 0 })

/-- RD_STROBE_LO (R139). -/
def rdStrobeLo (s : State) : State := goto .rdSettle (load Config.tAdcSettleUs { s with read := false })

/-- RD_LOCK (R141). -/
def rdLock (s : State) : State := goto .rdLockWait { s with lockReq := true }

/-- RD_LOCK_WAIT: no bound on the grant (R142). -/
def rdLockWait (s : State) : State := if s.lockGnt then goto .pxCsLo s else hold s

/-- PX_CS_LO, step a (R143). -/
def pxCsLo (s : State) : State := goto .pxXferStart { s with adcCsN := false }

/-- PX_XFER_START, step b (R144). -/
def pxXferStart (s : State) : State := goto .pxStrobeHi (txPush16 s)

/-- PX_STROBE_HI, step c (R145). -/
def pxStrobeHi (s : State) : State := goto .pxWaitMsb { s with read := true }

/-- PX_WAIT_MSB, step d: the first byte of the pair (R64, R146). -/
def pxWaitMsb (s : State) : State :=
  match rxPop s with
  | none => hold s
  | some (b, s') => goto .pxStrobeLo { s' with msb := b }

/-- PX_STROBE_LO, step e (R147). -/
def pxStrobeLo (s : State) : State := goto .pxWaitLsb { s with read := false }

/-- PX_WAIT_LSB, step f: the second byte of the pair (R64, R148). -/
def pxWaitLsb (s : State) : State :=
  match rxPop s with
  | none => hold s
  | some (b, s') => goto .pxCsHi { s' with lsb := b }

/-- PX_CS_HI, step g (R149). -/
def pxCsHi (s : State) : State := goto .pxCommit { s with adcCsN := true }

/-- PX_COMMIT, step h: discards one of the first `N_DISCARD` pairs, or stores the sample (R150). -/
def pxCommit (s : State) : State :=
  if s.discCnt.toNat < Config.nDiscard then
    goto .pxCsLo { s with discCnt := s.discCnt + 1 }
  else
    goto (if s.pixCnt.toNat = Config.nPix - 1 then .rdUnlock else .pxCsLo)
      { memWrite (pixIndex s.pixCnt) (sample16 s.msb s.lsb) s with pixCnt := s.pixCnt + 1 }

/-- RD_UNLOCK (R157). -/
def rdUnlock (s : State) : State := goto .pwrDown { s with lockReq := false, resCount := s.pixCnt }

end Sys2Proof.Machine
end

