-- ==== Sys2Proof/Machine/Sequencer.lean ====
section
/-! DEFINITION. The state rules of 40_sequencer.md that no command varies: power-up, power-down and response. (IDLE is
`accept`, PU_WAIT is `wait` with the command's body.) -/

namespace Sys2Proof.Machine

/-- PU_DRIVE (R105). -/
def puDrive (s : State) : State := goto .puWait (load Config.tPuSettleUs { s with pd := false })

/-- PWR_DOWN (R108). -/
def pwrDown (s : State) : State := goto .respond { s with pd := true }

/-- RESPOND (R111). -/
def respond (s : State) : State := present s

end Sys2Proof.Machine
end

