-- ==== Sys2Proof/Machine/StateRule.lean ====
section
/-! DEFINITION. The rule of the state named by STATE (R96 (b)) wherever it does not depend on the command. Each
command's meaning gives the states whose rule its opcode decides (IDLE, PU_WAIT, CB_ISSUE, CB_WAIT) and leaves the
rest to this one table. -/

namespace Sys2Proof.Machine

/-- The command-independent state rules. PU_WAIT, CB_ISSUE and CB_WAIT are reached here only for a command that no run
brings there (R106, R112). There the timer still counts and CB_WAIT still takes its answer and goes to PWR_DOWN, recording
nothing, as their rules say for every opcode; where a rule needs the successor or the request of a command that has none
(R106, R118), the step is a fault (assumption 11). -/
def stateRule (s : State) : Result :=
  match s.fsm with
  | .idle => .next (hold s)
  | .initBind => .next (initBind s)
  | .initCfg => .next (initCfg s)
  | .puDrive => .next (puDrive s)
  | .puWait => if s.dlyUs = 0 then .fault .puWaitNoBody else .next (wait .puWait s)
  | .cbIssue => .fault .cbIssueNoRequest
  | .cbWait => .next (cbWait recordNothing s)
  | .expOpen => .next (expOpen s)
  | .expHold => .next (wait .expClose s)
  | .expClose => .next (expClose s)
  | .expWaitDrdy => .next (expWaitDrdy s)
  | .rdStrobeHi => .next (rdStrobeHi s)
  | .rdStrobeWait => .next (wait .rdStrobeLo s)
  | .rdStrobeLo => .next (rdStrobeLo s)
  | .rdSettle => .next (wait .rdLock s)
  | .rdLock => .next (rdLock s)
  | .rdLockWait => .next (rdLockWait s)
  | .pxCsLo => .next (pxCsLo s)
  | .pxXferStart => .next (pxXferStart s)
  | .pxStrobeHi => .next (pxStrobeHi s)
  | .pxWaitMsb => .next (pxWaitMsb s)
  | .pxStrobeLo => .next (pxStrobeLo s)
  | .pxWaitLsb => .next (pxWaitLsb s)
  | .pxCsHi => .next (pxCsHi s)
  | .pxCommit => .next (pxCommit s)
  | .rdUnlock => .next (rdUnlock s)
  | .pwrDown => .next (pwrDown s)
  | .respond => .next (respond s)

end Sys2Proof.Machine
end

