-- ==== Sys2Proof/Machine/CaptureCommand.lean ====
section
/-! DEFINITION. The meaning of CAPTURE (42_capture.md R130): one core step of the block while a CAPTURE is the command
being accepted or in progress (assumption 12). -/

namespace Sys2Proof.Machine

/-- CAPTURE (R130), along the path of R112. A CAPTURE accepted while the pixel bus is unconfigured is refused
(R161, R170, I7). -/
def execCapture (a v : Byte) (e : Count32) (s : State) : Result :=
  match s.fsm with
  | .idle =>
    if s.cmdValid && !(s.pbEn && s.pbRxth) then .refused .captureUnconfigured
    else .next (accept 0x2#4 a v e s)
  | .puWait => .next (wait .expOpen s)
  | _ => stateRule s

end Sys2Proof.Machine
end

