-- ==== Sys2Proof/Machine/ControlCommands.lean ====
section
/-! DEFINITION. The meanings of INIT, GETREV, RDREG, WRREG, RESET and ILLEGAL (41_control_commands.md): for each, one
core step of the block while that command is the one being accepted or in progress (assumption 12). A command runs
from its accepting IDLE step to its RESPOND step along the path of 40_sequencer.md R112. -/

namespace Sys2Proof.Machine

/-- INIT's result (R119, R121): the revision is cached on success alone, and every non-zero status becomes 1. -/
def recordInit (status rdata : Byte) (s : State) : State :=
  if status = 0x00 then { s with revision := rdata, resStatus := 0x00 } else { s with resStatus := 0x01 }

/-- RDREG's result: the status verbatim, and the collaborator's byte whatever the status is (R119). -/
def recordRdreg (status rdata : Byte) (s : State) : State :=
  { s with resStatus := status, resValue := rdata }

/-- WRREG's result: the status verbatim; the byte is discarded (R119, R124). -/
def recordWrreg (status _rdata : Byte) (s : State) : State := { s with resStatus := status }

/-- RESET's result: the status verbatim (R119, R125). -/
def recordReset (status _rdata : Byte) (s : State) : State := { s with resStatus := status }

/-- INIT (R115): IDLE, INIT_BIND, INIT_CFG, PU_DRIVE, PU_WAIT, CB_ISSUE, CB_WAIT, PWR_DOWN, RESPOND. Its request is the
revision read (R118). -/
def execInit (a v : Byte) (e : Count32) (s : State) : Result :=
  match s.fsm with
  | .idle => .next (accept 0x1#4 a v e s)
  | .puWait => .next (wait .cbIssue s)
  | .cbIssue => .next (cbIssue .memRead s.cbDevaddr Config.revReg 0x00 Config.cbTimeoutMs s)
  | .cbWait => .next (cbWait recordInit s)
  | _ => stateRule s

/-- GETREV (R126): IDLE, which takes the cached revision, and RESPOND. -/
def execGetrev (a v : Byte) (e : Count32) (s : State) : Result :=
  match s.fsm with
  | .idle => .next (accept 0x3#4 a v e s)
  | _ => stateRule s

/-- RDREG (R123): IDLE, PU_DRIVE, PU_WAIT, CB_ISSUE, CB_WAIT, PWR_DOWN, RESPOND. Its request reads register CMD_A of the
bound device (R118). -/
def execRdreg (a v : Byte) (e : Count32) (s : State) : Result :=
  match s.fsm with
  | .idle => .next (accept 0x4#4 a v e s)
  | .puWait => .next (wait .cbIssue s)
  | .cbIssue => .next (cbIssue .memRead s.cbDevaddr s.cmdA 0x00 Config.cbTimeoutMs s)
  | .cbWait => .next (cbWait recordRdreg s)
  | _ => stateRule s

/-- WRREG (R124): the path of RDREG. Its request writes CMD_V to register CMD_A of the bound device (R118). -/
def execWrreg (a v : Byte) (e : Count32) (s : State) : Result :=
  match s.fsm with
  | .idle => .next (accept 0x5#4 a v e s)
  | .puWait => .next (wait .cbIssue s)
  | .cbIssue => .next (cbIssue .memWrite s.cbDevaddr s.cmdA s.cmdV Config.cbTimeoutMs s)
  | .cbWait => .next (cbWait recordWrreg s)
  | _ => stateRule s

/-- RESET (R125): the path of RDREG. Its request transmits the reset command byte to the broadcast address, which is
not shifted (R118). -/
def execReset (a v : Byte) (e : Count32) (s : State) : Result :=
  match s.fsm with
  | .idle => .next (accept 0x6#4 a v e s)
  | .puWait => .next (wait .cbIssue s)
  | .cbIssue => .next (cbIssue .transmit Config.gcAddr 0x00 Config.gcResetCmd Config.cbResetTimeoutMs s)
  | .cbWait => .next (cbWait recordReset s)
  | _ => stateRule s

/-- ILLEGAL, opcode 0x0 (R127): IDLE and RESPOND. -/
def execIllegalZero (a v : Byte) (e : Count32) (s : State) : Result :=
  match s.fsm with
  | .idle => .next (accept 0x0#4 a v e s)
  | _ => stateRule s

/-- ILLEGAL, opcode 0x7 (R127): IDLE and RESPOND. -/
def execIllegalSeven (a v : Byte) (e : Count32) (s : State) : Result :=
  match s.fsm with
  | .idle => .next (accept 0x7#4 a v e s)
  | _ => stateRule s

/-- ILLEGAL, opcodes 0x8..0xF (R127): IDLE and RESPOND; `op` is the raw opcode. -/
def execIllegalHigh (op : Opcode) (a v : Byte) (e : Count32) (s : State) : Result :=
  match s.fsm with
  | .idle => .next (accept op a v e s)
  | _ => stateRule s

end Sys2Proof.Machine
end

