-- ==== Sys2Proof/Machine/Dispatch.lean ====
section
/-! DEFINITION. One arm per command of the opcode table. -/

namespace Sys2Proof.Machine

/-- One core step of the block (R96 (b)) in which `i` is the command being accepted or in progress. -/
def exec (i : Instr) (s : State) : Host.Outcome State Fault Refusal :=
  match i with
  | .init a v e => Sys2Proof.Machine.execInit a v e s
  | .capture a v e => Sys2Proof.Machine.execCapture a v e s
  | .getrev a v e => Sys2Proof.Machine.execGetrev a v e s
  | .rdreg a v e => Sys2Proof.Machine.execRdreg a v e s
  | .wrreg a v e => Sys2Proof.Machine.execWrreg a v e s
  | .reset a v e => Sys2Proof.Machine.execReset a v e s
  | .illegalZero a v e => Sys2Proof.Machine.execIllegalZero a v e s
  | .illegalSeven a v e => Sys2Proof.Machine.execIllegalSeven a v e s
  | .illegalHigh op a v e => Sys2Proof.Machine.execIllegalHigh op a v e s

end Sys2Proof.Machine
end

