-- ==== Sys2Proof/Machine/Environment.lean ====
section
/-! DEFINITION. The steps of the environment agents (10_state.md §3): which cells each one writes, and when it is
enabled. The values an agent supplies are draws (R9): they stand in the step itself, and nothing constrains them. -/

namespace Sys2Proof.Machine

/-- HOST writes CMD_WORD and sets CMD_VALID in one step, only while CMD_VALID is 0 (R40, R193 (a)). -/
def hostPost (w : CmdWord) (s : State) : Result :=
  if s.cmdValid then .refused .hostPostWhileValid
  else .next { s with cmdWord := w, cmdValid := true }

/-- HOST reads `readPix s i`; the read has no effect on the block (R50, R71 (c)). -/
def hostReadPix (_i : PixIndex) (s : State) : Result := .next s

/-- HOST reads `hostView s`; the read has no effect on the block (R50). -/
def hostReadRegs (s : State) : Result := .next s

/-- HOST drives the reset input (R50 (d), R182). -/
def hostRst (level : Bool) (s : State) : Result := .next { s with rst := level }

/-- SENSOR drives DATA_RDY, at any time (R44). -/
def sensorDrive (level : Bool) (s : State) : Result := .next { s with dataRdy := level }

/-- PIXBUS clocks one byte: enabled while `PB_EN == 1 && PB_RXTH == 1 && PB_TXPEND > 0` (R43). -/
def pixbusByte (b : Byte) (s : State) : Result :=
  if s.pbEn && s.pbRxth && decide (0 < s.pbTxpend) then
    .next { s with pbTxpend := s.pbTxpend - 1, pbRxq := s.pbRxq ++ [b] }
  else .refused .pixbusNotEnabled

/-- CBUS performs the posted transaction: enabled while `CB_REQ == 1 && CB_RSP == none` (R47). -/
def cbusAnswer (status rdata : Byte) (s : State) : Result :=
  if s.cbReq && s.cbRsp.isNone then
    .next { s with cbReq := false, cbRsp := some (status, rdata) }
  else .refused .cbusNotEnabled

/-- CBUS answers a request that a reset removed (R183, R198; assumption 6). -/
def cbusLateAnswer (status rdata : Byte) (s : State) : Result :=
  if s.cbLate && s.cbRsp.isNone then
    .next { s with cbLate := false, cbRsp := some (status, rdata) }
  else .refused .cbusLateNotEnabled

/-- ARBITER grants: enabled while `LOCK_REQ == 1 && LOCK_GNT == 0` (R48). -/
def arbiterGrant (s : State) : Result :=
  if s.lockReq && !s.lockGnt then .next { s with lockGnt := true } else .refused .arbiterNotEnabled

/-- ARBITER takes the grant back: enabled while `LOCK_REQ == 0 && LOCK_GNT == 1` (R48). -/
def arbiterRelease (s : State) : Result :=
  if !s.lockReq && s.lockGnt then .next { s with lockGnt := false } else .refused .arbiterNotEnabled

/-- One step of an environment agent. -/
def envStep (e : EnvStep) (s : State) : Result :=
  match e with
  | .hostPost w => hostPost w s
  | .hostReadPix i => hostReadPix i s
  | .hostReadRegs => hostReadRegs s
  | .hostRst level => hostRst level s
  | .sensor level => sensorDrive level s
  | .pixbus b => pixbusByte b s
  | .cbus status rdata => cbusAnswer status rdata s
  | .cbusLate status rdata => cbusLateAnswer status rdata s
  | .grant => arbiterGrant s
  | .release => arbiterRelease s

end Sys2Proof.Machine
end

