-- ==== Sys2Proof/Machine/Step.lean ====
section
/-! DEFINITION. One step of the machine: the next turn of the schedule, CORE's when the schedule is empty. -/

namespace Sys2Proof.Machine

/-- One core step (R96): the block reset has precedence; otherwise the rule of the state named by STATE, for the command
it is about. -/
def coreStep (s : State) : Host.Outcome State Fault Refusal :=
  if s.rst then .next (resetCore s)
  else
    match currentCommand s with
    | some i => exec i s
    | none => .next (hold s)

/-- One step of one agent (R8). -/
def step (s : State) : Host.Outcome State Fault Refusal :=
  match s.schedule with
  | [] => coreStep s
  | .core :: rest => coreStep { s with schedule := rest }
  | .env e :: rest => envStep e { s with schedule := rest }

/-- `s` with the word `w` (its bits from `nbits` up 0) posted in the command mailbox and the block about to accept it:
in IDLE, out of reset, CORE's turn next (assumption 13). -/
def State.withFetchWord (s : State) (nbits w : Nat) : State :=
  { s with
    fsm := .idle
    cmdWord := BitVec.ofNat 64 (w % 2 ^ nbits)
    cmdValid := true
    rst := false
    schedule := [] }

end Sys2Proof.Machine
end

