-- ==== Sys2Proof/Safety.lean ====
section
/-! DEFINITION. What the statements speak of: the states in which each line is active, the path of a command, the
invariants of 10_state.md R53 and R54 over every state of the machine, the clean launch (R185), and when two runs
differ only in what a command ignores (R84). -/

namespace Sys2Proof.Safety

open Sys2Proof.Machine

/-! ## Sets of STATE -/

/-- The states in which PD is 0 (R110): codes 0x04..0x19, and PWR_DOWN before its step. -/
def powered : Fsm → Bool
  | .idle => false
  | .initBind => false
  | .initCfg => false
  | .puDrive => false
  | .respond => false
  | _ => true

/-- The states in which SHUTTER is 1: after EXP_OPEN's step, up to EXP_CLOSE's (R135). -/
def shutterOpen : Fsm → Bool
  | .expHold => true
  | .expClose => true
  | _ => false

/-- The states in which READ is 1 (R137 to R139, R151). -/
def strobeHigh : Fsm → Bool
  | .rdStrobeWait => true
  | .rdStrobeLo => true
  | .pxWaitMsb => true
  | .pxStrobeLo => true
  | _ => false

/-- The states in which ADC_CS_N is 0, the ADC selected (R151). -/
def selected : Fsm → Bool
  | .pxXferStart => true
  | .pxStrobeHi => true
  | .pxWaitMsb => true
  | .pxStrobeLo => true
  | .pxWaitLsb => true
  | .pxCsHi => true
  | _ => false

/-- The pixel-cycle states PX_CS_LO..PX_COMMIT (R54, R93). -/
def inPixelCycle : Fsm → Bool
  | .pxCsLo => true
  | .pxXferStart => true
  | .pxStrobeHi => true
  | .pxWaitMsb => true
  | .pxStrobeLo => true
  | .pxWaitLsb => true
  | .pxCsHi => true
  | .pxCommit => true
  | _ => false

/-- The states in which LOCK_REQ is 1: after RD_LOCK's step, up to RD_UNLOCK's (R141, R157). -/
def lockHeld : Fsm → Bool
  | .rdLockWait => true
  | .rdUnlock => true
  | f => inPixelCycle f

/-- The states between the clearing of the counters (R137) and the first pixel cycle. -/
def inPreamble : Fsm → Bool
  | .rdStrobeWait => true
  | .rdStrobeLo => true
  | .rdSettle => true
  | .rdLock => true
  | .rdLockWait => true
  | _ => false

/-- The states on the path of the command with this opcode, IDLE left out (R112). -/
def onPath (op : Opcode) : Fsm → Bool
  | .idle => false
  | .respond => true
  | .pwrDown => isCommand op && op != 0x3#4
  | .puDrive => isCommand op && op != 0x3#4
  | .puWait => isCommand op && op != 0x3#4
  | .initBind => op == 0x1#4
  | .initCfg => op == 0x1#4
  | .cbIssue => isCommand op && op != 0x2#4 && op != 0x3#4
  | .cbWait => isCommand op && op != 0x2#4 && op != 0x3#4
  | _ => op == 0x2#4

/-- Bytes of the current transfer that CORE has still to read (R54: 2 queued in PX_XFER_START, one read in each of
PX_WAIT_MSB and PX_WAIT_LSB). -/
def outstanding : Fsm → Nat
  | .pxStrobeHi => 2
  | .pxWaitMsb => 2
  | .pxStrobeLo => 1
  | .pxWaitLsb => 1
  | _ => 0

/-! ## The invariant of every step -/

/-- What every step of any agent keeps, a block reset among them. -/
structure BlockInv (s : State) : Prop where
  /-- PD is 0 exactly in the powered states (R110) -/
  pd : s.pd = !powered s.fsm
  /-- CLR_DATA and CLR_PIX are 0 at all times (R28, R136) -/
  clear : s.clrData = false ∧ s.clrPix = false
  /-- SHUTTER is 1 exactly from EXP_OPEN's step to EXP_CLOSE's (R135) -/
  shutter : s.shutter = shutterOpen s.fsm
  /-- READ follows the traces of R137 to R139 and R151 -/
  read : s.read = strobeHigh s.fsm
  /-- ADC_CS_N follows the trace of R151 -/
  select : s.adcCsN = !selected s.fsm
  /-- LOCK_REQ is set before the first pixel cycle and cleared after the last (R77) -/
  lock : s.lockReq = lockHeld s.fsm
  /-- from the first pixel cycle to RD_UNLOCK's step the lock is granted: no transfer starts before LOCK_GNT is 1, and
  ARBITER takes no grant back while LOCK_REQ is 1 (R48, R77 (a), R142) -/
  granted : inPixelCycle s.fsm = true ∨ s.fsm = .rdUnlock → s.lockGnt = true
  /-- `DISC_CNT <= 4` and `PIX_CNT <= 1024` (R54) -/
  counts : s.discCnt.toNat ≤ 4 ∧ s.pixCnt.toNat ≤ 1024
  /-- in the pixel states `PIX_CNT <= 1023` (R54) -/
  pixel : inPixelCycle s.fsm = true → s.pixCnt.toNat ≤ 1023
  /-- nothing is stored before `N_DISCARD` pairs are discarded (R152) -/
  discard : inPixelCycle s.fsm = true → s.discCnt.toNat < 4 → s.pixCnt = 0
  /-- both counters are 0 from RD_STROBE_HI's step to the first pixel cycle (R137) -/
  cleared : inPreamble s.fsm = true → s.discCnt = 0 ∧ s.pixCnt = 0
  /-- the loop ends with 1024 stored pixels (R157, R158) -/
  unlock : s.fsm = .rdUnlock → s.pixCnt.toNat = 1024
  /-- `DLY_PRE < P_CYC_PER_US` (R54) -/
  prescale : s.dlyPre < Config.cycPerUs
  /-- STATE is on the path of the latched command (R112) -/
  path : s.fsm ≠ .idle → onPath s.cmdOp s.fsm = true
  /-- both pixel-bus bits are set together (R77 (b)) -/
  configBits : s.pbRxth = s.pbEn
  /-- a CAPTURE in progress found the pixel bus configured (R161) -/
  configured : s.fsm ≠ .idle → s.cmdOp = 0x2#4 → s.pbEn = true
  /-- the bound device address is a shifted one (R62, R86) -/
  devAddr : s.cbDevaddr.getLsbD 0 = false
  /-- RES_ILLEGAL tells a reserved opcode (R95, R99) -/
  resIllegal : s.fsm ≠ .idle → s.resIllegal = acceptIllegal s.cmdOp
  /-- RES_STATUS per command (R95) -/
  resStatus : s.fsm ≠ .idle →
    (isCommand s.cmdOp = false → s.resStatus = 0xFF) ∧
    (s.cmdOp = 0x1#4 → s.resStatus.toNat ≤ 1) ∧
    (s.cmdOp = 0x2#4 ∨ s.cmdOp = 0x3#4 → s.resStatus = 0x00)
  /-- RES_VALUE per command (R95, R126) -/
  resValue : s.fsm ≠ .idle →
    (s.cmdOp = 0x3#4 → s.resValue = s.revision) ∧
    (s.cmdOp ≠ 0x3#4 → s.cmdOp ≠ 0x4#4 → s.resValue = 0x00)
  /-- RES_COUNT is 0 until RD_UNLOCK sets it to 1024 (R95, R157, R158) -/
  resCount : s.fsm ≠ .idle →
    s.resCount.toNat =
      if s.cmdOp = 0x2#4 ∧ (s.fsm = .pwrDown ∨ s.fsm = .respond) then 1024 else 0
  /-- RESP_COUNT is 0 or 1024 (R56) -/
  respCount : s.respCount.toNat = 0 ∨ s.respCount.toNat = 1024
  /-- RESP_VALID is 1 only in the step after RESPOND's (R111, R195) -/
  respValid : s.respValid = true → s.fsm = .idle
  /-- PIXBUF is in its canonical form (R58) -/
  buffer : Memory.wf s.pixbuf

/-! ## What holds from a clean launch on, while no reset is taken -/

/-- The handshakes with CBUS and PIXBUS (R53, R54, R120): no answer is left over, and the bytes queued and received are
exactly the ones CORE has still to read. -/
structure CleanHandshakes (s : State) : Prop where
  /-- no request removed by a reset is open -/
  late : s.cbLate = false
  /-- in CB_WAIT the request or its answer is there, never both (R47, R118) -/
  waiting : s.fsm = .cbWait → s.cbReq = s.cbRsp.isNone
  /-- outside CB_WAIT no transaction is outstanding (R120) -/
  quiet : s.fsm ≠ .cbWait → s.cbReq = false ∧ s.cbRsp = none
  /-- the pixel-bus bytes account for the current transfer (R54) -/
  bytes : s.pbTxpend + s.pbRxq.length = outstanding s.fsm

/-- The clean launch of R185: the core registers at their reset values, the mailboxes and queues empty, no grant; any
DATA_RDY, any PIXBUF contents, any word in the empty mailbox, any history and any schedule. Two conditions are the
model's and not R185's. DESIGN CHOICE (assumption 6): `cbLate` is false, that is, no request removed by an earlier reset
is still to be answered; R185 lists no such condition, and without it R183's late answer could break R53 and R120. The
buffer's list is in its canonical form, as every buffer the machine makes is (assumption 5). -/
def CleanLaunch (s : State) : Prop :=
  s = { State.reset with
        cmdWord := s.cmdWord, dataRdy := s.dataRdy, pixbuf := s.pixbuf,
        history := s.history, schedule := s.schedule } ∧
    Memory.wf s.pixbuf

/-! ## What a command ignores -/

/-- Two commands of one opcode agree in every field bit that opcode uses (R81 to R87): INIT A[6:0], CAPTURE the hold
`max(E, 1)`, RDREG A, WRREG A and V, the others nothing. -/
def sameOperands (op : Opcode) (a a' v v' : Byte) (e e' : Count32) : Prop :=
  (op = 0x1#4 → a.extractLsb' 0 7 = a'.extractLsb' 0 7) ∧
  (op = 0x2#4 → holdUs e = holdUs e') ∧
  (op = 0x4#4 → a = a') ∧
  (op = 0x5#4 → a = a' ∧ v = v')

/-- Two words of one opcode that agree in every field bit that opcode uses: they differ in the reserved fields W[7:4] and
W[31:24] and in unused field bits alone (R84). -/
def sameCommand (w w' : CmdWord) : Prop :=
  opOf w = opOf w' ∧ sameOperands (opOf w) (aOf w) (aOf w') (vOf w) (vOf w') (eOf w) (eOf w')

/-- `t` is `s` but for bits that nothing uses (R84): of the latched fields, those that the command in progress does not
use (in IDLE no command is in progress and the latches are read by nothing); of CMD_WORD, those that the posted command
does not use, the reserved fields among them, and all of it while no word is posted. -/
def DiffersInIgnoredFields (s t : State) : Prop :=
  t = { s with cmdA := t.cmdA, cmdV := t.cmdV, cmdE := t.cmdE, cmdWord := t.cmdWord } ∧
    (s.fsm ≠ .idle → sameOperands s.cmdOp s.cmdA t.cmdA s.cmdV t.cmdV s.cmdE t.cmdE) ∧
    (s.cmdValid = true → sameCommand s.cmdWord t.cmdWord)

/-! ## The path of a command -/

/-- The successor of a wait state (R103, R106): PU_WAIT's is the body of the command with this opcode. -/
def waitSuccessor (op : Opcode) : Fsm → Option Fsm
  | .puWait =>
    if op = 0x1#4 ∨ op = 0x4#4 ∨ op = 0x5#4 ∨ op = 0x6#4 then some .cbIssue
    else if op = 0x2#4 then some .expOpen
    else none
  | .expHold => some .expClose
  | .rdStrobeWait => some .rdStrobeLo
  | .rdSettle => some .rdLock
  | _ => none

/-- The states a core step can go to from each state of a command's path (R112), IDLE left out: a polling or wait state
may repeat, and PX_COMMIT alone has two successors. -/
def successors (op : Opcode) : Fsm → List Fsm
  | .idle => []
  | .initBind => [.initCfg]
  | .initCfg => [.puDrive]
  | .puDrive => [.puWait]
  | .puWait => [.puWait, if op = 0x2#4 then .expOpen else .cbIssue]
  | .cbIssue => [.cbWait]
  | .cbWait => [.cbWait, .pwrDown]
  | .expOpen => [.expHold]
  | .expHold => [.expHold, .expClose]
  | .expClose => [.expWaitDrdy]
  | .expWaitDrdy => [.expWaitDrdy, .rdStrobeHi]
  | .rdStrobeHi => [.rdStrobeWait]
  | .rdStrobeWait => [.rdStrobeWait, .rdStrobeLo]
  | .rdStrobeLo => [.rdSettle]
  | .rdSettle => [.rdSettle, .rdLock]
  | .rdLock => [.rdLockWait]
  | .rdLockWait => [.rdLockWait, .pxCsLo]
  | .pxCsLo => [.pxXferStart]
  | .pxXferStart => [.pxStrobeHi]
  | .pxStrobeHi => [.pxWaitMsb]
  | .pxWaitMsb => [.pxWaitMsb, .pxStrobeLo]
  | .pxStrobeLo => [.pxWaitLsb]
  | .pxWaitLsb => [.pxWaitLsb, .pxCsHi]
  | .pxCsHi => [.pxCommit]
  | .pxCommit => [.pxCsLo, .rdUnlock]
  | .rdUnlock => [.pwrDown]
  | .pwrDown => [.respond]
  | .respond => [.idle]

/-- The first state of the body of the command with this opcode (R100). -/
def firstState (op : Opcode) : Fsm :=
  if op = 0x1#4 then .initBind
  else if op = 0x2#4 ∨ op = 0x4#4 ∨ op = 0x5#4 ∨ op = 0x6#4 then .puDrive
  else .respond

/-- A polling state whose test fails (R98): no core step of it goes on. -/
def holding (s : State) : Prop :=
  (s.fsm = .idle ∧ s.cmdValid = false) ∨ (s.fsm = .cbWait ∧ s.cbRsp = none) ∨
  (s.fsm = .expWaitDrdy ∧ s.dataRdy = false) ∨ (s.fsm = .rdLockWait ∧ s.lockGnt = false) ∨
  ((s.fsm = .pxWaitMsb ∨ s.fsm = .pxWaitLsb) ∧ s.pbRxq = [])

/-! ## Runs -/

/-- `n` steps of the machine. -/
def run (n : Nat) (s : State) : Result := Host.Core.run Sys2Proof.core n s

/-- `n` core turns. -/
def coreTurns (n : Nat) : List Turn := List.replicate n .core

/-- The turns of one pixel cycle when PIXBUS clocks both bytes before PX_WAIT_MSB (95_test_vectors.md L2.7): two core
steps, two bytes, six core steps. -/
def pixelTurns (b c : Byte) : List Turn :=
  [.core, .core, .env (.pixbus b), .env (.pixbus c), .core, .core, .core, .core, .core, .core]

/-- The turns of `n` pixel cycles from the one that clocks in bytes `2 * k` and `2 * k + 1`. -/
def readoutTurns (bytes : Nat → Byte) (k : Nat) : Nat → List Turn
  | 0 => []
  | n + 1 => pixelTurns (bytes (2 * k)) (bytes (2 * k + 1)) ++ readoutTurns bytes (k + 1) n

/-- The bytes CORE reads in order: those already in the receive queue, then those clocked in (R160). -/
def byteStream (queue : List Byte) (bytes : Nat → Byte) (j : Nat) : Byte :=
  if j < queue.length then queue.getD j 0 else bytes (j - queue.length)

/-- The sample stored at index `i` of a capture that reads this stream: pixel cycle `i + 5`, bytes `2 * i + 8` and
`2 * i + 9` (R152, R154). -/
def streamSample (stream : Nat → Byte) (i : Nat) : PixWord :=
  sample16 (stream (2 * i + 8)) (stream (2 * i + 9))

/-- The write events of a capture's stores, newest first: indexes `n - 1` down to 0 (R59, R74). -/
def storeEvents (stream : Nat → Byte) : Nat → List Event
  | 0 => []
  | n + 1 => .pixWrite (BitVec.ofNat 10 n) (streamSample stream n) :: storeEvents stream n

end Sys2Proof.Safety
end

