-- ==== Sys2Proof/Certificates/Slice0/Obligations.lean ====
section
/-! DEFINITION. The statements about the block, each a `def Obligations.<Name> : Prop`; the docstring names the rules of
spec/ it comes from. Nothing is proved here. -/

open Sys2Proof Sys2Proof.Machine Sys2Proof.Safety

/-! ## Encoding -/

/-- No field of a command is lost: decoding the word of a well-formed command gives the command back (R80, R85, R90). -/
def Obligations.DecodeInvertsEncode : Prop :=
  ∀ i : Instr, WellFormed i = true → decode (encode i) = i

/-- Every word decodes to a well-formed command, and its word is the one decoded with the reserved fields W[7:4] and
W[31:24] cleared (R80, R84, R90). -/
def Obligations.EncodeInvertsDecodeUpToReserved : Prop :=
  ∀ w : CmdWord, WellFormed (decode w) = true ∧ encode (decode w) = w &&& 0xFFFFFFFF00FFFF0F#64

/-- The opcode map, by W[3:0] alone, on any word: which command, and its fields as the layout places them
(R80, R85, R89). -/
def Obligations.OpcodeMapSelectsCommand : Prop :=
  ∀ w : CmdWord,
    let a := BitVec.ofNat 8 (w.toNat / 2 ^ 8)
    let v := BitVec.ofNat 8 (w.toNat / 2 ^ 16)
    let e := BitVec.ofNat 32 (w.toNat / 2 ^ 32)
    (w.toNat % 16 = 0 → decode w = .illegalZero a v e) ∧
    (w.toNat % 16 = 1 → decode w = .init a v e) ∧
    (w.toNat % 16 = 2 → decode w = .capture a v e) ∧
    (w.toNat % 16 = 3 → decode w = .getrev a v e) ∧
    (w.toNat % 16 = 4 → decode w = .rdreg a v e) ∧
    (w.toNat % 16 = 5 → decode w = .wrreg a v e) ∧
    (w.toNat % 16 = 6 → decode w = .reset a v e) ∧
    (w.toNat % 16 = 7 → decode w = .illegalSeven a v e) ∧
    (8 ≤ w.toNat % 16 → decode w = .illegalHigh (BitVec.ofNat 4 w.toNat) a v e)

/-- Words written out from the layout decode to the commands they stand for (R80, R85; the words of
95_test_vectors.md L2.1). -/
def Obligations.SpecWordsDecode : Prop :=
  decode 0x0000000000001501#64 = .init 0x15 0 0 ∧
  decode 0x0000006400000002#64 = .capture 0 0 100 ∧
  decode 0x00000000FF0000F3#64 = .getrev 0 0 0 ∧
  decode 0x000000000000FF04#64 = .rdreg 0xFF 0 0 ∧
  decode 0x00000000005A1005#64 = .wrreg 0x10 0x5A 0 ∧
  decode 0x0000000000000006#64 = .reset 0 0 0 ∧
  decode 0x0000000000000000#64 = .illegalZero 0 0 0 ∧
  decode 0x0000000000000007#64 = .illegalSeven 0 0 0 ∧
  decode 0xFFFFFFFFFFFFFFFF#64 = .illegalHigh 0xF 0xFF 0xFF 0xFFFFFFFF

/-- The assembler's six forms. In range, the word is that of the command with the operands written and 0 in every other
field, the reserved fields among them, the number R91's table computes, and it decodes to that command; out of range, the
assembler refuses (R91). -/
def Obligations.AssemblerFormsDecode : Prop :=
  (∀ n, n ≤ 127 → ∃ w, assemble (.init n) = some w ∧ w.toNat = n * 2 ^ 8 + 0x1 ∧
    w = encode (.init (BitVec.ofNat 8 n) 0 0) ∧ decode w = .init (BitVec.ofNat 8 n) 0 0) ∧
  (∀ n, n ≤ 4294967295 → ∃ w, assemble (.capture n) = some w ∧ w.toNat = n * 2 ^ 32 + 0x2 ∧
    w = encode (.capture 0 0 (BitVec.ofNat 32 n)) ∧ decode w = .capture 0 0 (BitVec.ofNat 32 n)) ∧
  (∃ w, assemble .getrev = some w ∧ w.toNat = 0x3 ∧ w = encode (.getrev 0 0 0) ∧ decode w = .getrev 0 0 0) ∧
  (∀ n, n ≤ 255 → ∃ w, assemble (.rdreg n) = some w ∧ w.toNat = n * 2 ^ 8 + 0x4 ∧
    w = encode (.rdreg (BitVec.ofNat 8 n) 0 0) ∧ decode w = .rdreg (BitVec.ofNat 8 n) 0 0) ∧
  (∀ n m, n ≤ 255 → m ≤ 255 →
    ∃ w, assemble (.wrreg n m) = some w ∧ w.toNat = m * 2 ^ 16 + n * 2 ^ 8 + 0x5 ∧
      w = encode (.wrreg (BitVec.ofNat 8 n) (BitVec.ofNat 8 m) 0) ∧
      decode w = .wrreg (BitVec.ofNat 8 n) (BitVec.ofNat 8 m) 0) ∧
  (∃ w, assemble .reset = some w ∧ w.toNat = 0x6 ∧ w = encode (.reset 0 0 0) ∧ decode w = .reset 0 0 0) ∧
  (∀ n, 127 < n → assemble (.init n) = none) ∧
  (∀ n, 4294967295 < n → assemble (.capture n) = none) ∧
  (∀ n, 255 < n → assemble (.rdreg n) = none) ∧
  (∀ n m, 255 < n ∨ 255 < m → assemble (.wrreg n m) = none)

/-- The codes of STATE are those of R93's table, state by state; no two states share a code, and 0x1C to 0x1F name no
state and recover to PWR_DOWN (R93, R94). -/
def Obligations.StateCodesNameStates : Prop :=
  fsmCode .idle = 0x00#5 ∧ fsmCode .initBind = 0x01#5 ∧ fsmCode .initCfg = 0x02#5 ∧ fsmCode .puDrive = 0x03#5 ∧
  fsmCode .puWait = 0x04#5 ∧ fsmCode .cbIssue = 0x05#5 ∧ fsmCode .cbWait = 0x06#5 ∧ fsmCode .expOpen = 0x07#5 ∧
  fsmCode .expHold = 0x08#5 ∧ fsmCode .expClose = 0x09#5 ∧ fsmCode .expWaitDrdy = 0x0A#5 ∧
  fsmCode .rdStrobeHi = 0x0B#5 ∧ fsmCode .rdStrobeWait = 0x0C#5 ∧ fsmCode .rdStrobeLo = 0x0D#5 ∧
  fsmCode .rdSettle = 0x0E#5 ∧ fsmCode .rdLock = 0x0F#5 ∧ fsmCode .rdLockWait = 0x10#5 ∧
  fsmCode .pxCsLo = 0x11#5 ∧ fsmCode .pxXferStart = 0x12#5 ∧ fsmCode .pxStrobeHi = 0x13#5 ∧
  fsmCode .pxWaitMsb = 0x14#5 ∧ fsmCode .pxStrobeLo = 0x15#5 ∧ fsmCode .pxWaitLsb = 0x16#5 ∧
  fsmCode .pxCsHi = 0x17#5 ∧ fsmCode .pxCommit = 0x18#5 ∧ fsmCode .rdUnlock = 0x19#5 ∧
  fsmCode .pwrDown = 0x1A#5 ∧ fsmCode .respond = 0x1B#5 ∧
  (∀ f : Fsm, fsmOfCode (fsmCode f) = some f) ∧
  (∀ (c : BitVec 5) (f : Fsm), fsmOfCode c = some f → fsmCode f = c) ∧
  (∀ c : BitVec 5, 0x1C ≤ c.toNat → fsmOfCode c = none ∧ fsmRecover c = .pwrDown)

/-! ## The step -/

/-- Whose turn it is, and which command a core step is about. CORE moves when the schedule is empty and on its own turn,
an agent on its turn: the schedule is the model's choice (assumption 8), its way to hold R8's free order. Out of reset, a
core step in IDLE with a posted word is `exec` of the decoded word, and a core step elsewhere is `exec` of the latched
command: that `exec` is one core step of the command being accepted or in progress is the model's choice
(assumption 12), resting on R96 (b), R99 and R78. -/
def Obligations.StepRunsCurrentCommand : Prop :=
  ∀ s : State,
    (s.schedule = [] → step s = coreStep s) ∧
    (∀ rest, s.schedule = .core :: rest → step s = coreStep { s with schedule := rest }) ∧
    (∀ e rest, s.schedule = .env e :: rest → step s = envStep e { s with schedule := rest }) ∧
    (s.rst = false → s.fsm = .idle → s.cmdValid = true → coreStep s = exec (decode s.cmdWord) s) ∧
    (s.rst = false → s.fsm ≠ .idle → coreStep s = exec (commandOf s.cmdOp s.cmdA s.cmdV s.cmdE) s)

/-- A core step in IDLE with no posted word holds: only RESP_VALID is written (R97, R98, R99). -/
def Obligations.IdleHoldsWithoutCommand : Prop :=
  ∀ s : State, s.rst = false → s.fsm = .idle → s.cmdValid = false →
    coreStep s = .next { s with respValid := false }

/-- A core step under reset sets every core register to its reset value and nothing else: it reads no input, consumes no
mailbox and records no response; the cells the environment owns, PIXBUF and the history stay (R182, with the values of
R52). Of `cbLate`, the model's own field (assumption 6), nothing is said. -/
def Obligations.ResetStepSetsCoreRegisters : Prop :=
  ∀ s : State, s.rst = true →
    ∃ late, coreStep s = .next
      { s with
        fsm := .idle, cmdOp := 0, cmdA := 0, cmdV := 0, cmdE := 0, cbDevaddr := 0, revision := 0
        pbRxth := false, pbEn := false, pd := true, clrData := false, clrPix := false, shutter := false
        read := false, adcCsN := true, dlyUs := 0, dlyPre := 0, msb := 0, lsb := 0, discCnt := 0, pixCnt := 0
        lockReq := false, resStatus := 0, resValue := 0, resCount := 0, resIllegal := false
        respValid := false, respOp := 0, respStatus := 0, respValue := 0, respCount := 0, respIllegal := false
        cbReq := false, cbKind := .memRead, cbDev := 0, cbReg := 0, cbData := 0, cbTmoMs := 0
        cbLate := late }

/-! ## Acceptance -/

/-- A posted word is accepted in IDLE, for every well-formed command but a CAPTURE whose pixel bus is unconfigured: the
fields are latched, the word is consumed, the result registers are set as R99 says, and STATE is the first of the body
(R99, R100). Nothing else changes. -/
def Obligations.AcceptanceLatchesCommand : Prop :=
  ∀ (i : Instr) (s : State), WellFormed i = true → s.fsm = .idle → s.cmdValid = true →
    (i.op = 0x2#4 → s.pbEn = true ∧ s.pbRxth = true) →
    exec i s = .next
      { s with
        fsm := firstState i.op
        cmdOp := i.op, cmdA := i.a, cmdV := i.v, cmdE := i.e
        cmdValid := false
        resCount := 0
        resStatus := if 1 ≤ i.op.toNat ∧ i.op.toNat ≤ 6 then 0x00 else 0xFF
        resIllegal := if 1 ≤ i.op.toNat ∧ i.op.toNat ≤ 6 then false else true
        resValue := if i.op = 0x3#4 then s.revision else 0x00
        respValid := false }

/-- A CAPTURE accepted while PB_EN or PB_RXTH is 0 is refused, whatever its fields are (R161, R170). -/
def Obligations.UnconfiguredCaptureRefused : Prop :=
  ∀ (a v : Byte) (e : Count32) (s : State), s.fsm = .idle → s.cmdValid = true →
    s.pbEn = false ∨ s.pbRxth = false → exec (.capture a v e) s = .refused .captureUnconfigured

/-! ## The states every sensor-facing command passes -/

/-- PU_DRIVE lowers PD and loads 12 microseconds into the timer, and PWR_DOWN raises PD, in every command (R105, R108). The
last clause is R108's corner case, which the spec derives: it holds wherever the block's invariant does. -/
def Obligations.PowerStatesDrivePd : Prop :=
  ∀ (i : Instr) (s : State),
    (s.fsm = .puDrive → exec i s = .next
      { s with pd := false, dlyUs := 12, dlyPre := Config.cycPerUs - 1, fsm := .puWait, respValid := false }) ∧
    (s.fsm = .pwrDown → exec i s = .next { s with pd := true, fsm := .respond, respValid := false }) ∧
    (BlockInv s → s.fsm = .pwrDown → s.shutter = false ∧ s.read = false ∧ s.adcCsN = true)

/-- The rule of the four wait states: leave, start the next microsecond, or count one clock cycle (R103, R106, R132,
R138, R140). -/
def Obligations.WaitStatesCountDown : Prop :=
  ∀ (i : Instr) (s : State) (next : Fsm), waitSuccessor i.op s.fsm = some next → WellFormed i = true →
    (s.dlyUs = 0 → exec i s = .next { s with fsm := next, respValid := false }) ∧
    (s.dlyUs ≠ 0 → s.dlyPre = 0 → exec i s = .next
      { s with dlyUs := s.dlyUs - 1, dlyPre := Config.cycPerUs - 1, respValid := false }) ∧
    (s.dlyUs ≠ 0 → s.dlyPre ≠ 0 → exec i s = .next { s with dlyPre := s.dlyPre - 1, respValid := false })

/-- RESPOND, in every command: the response registers take the result registers with RESP_VALID, the response event is
recorded, and STATE is IDLE (R111). -/
def Obligations.RespondPresentsResults : Prop :=
  ∀ (i : Instr) (s : State), s.fsm = .respond →
    exec i s = .next
      { s with
        fsm := .idle
        respOp := s.cmdOp, respStatus := s.resStatus, respValue := s.resValue, respCount := s.resCount
        respIllegal := s.resIllegal, respValid := true
        history := .response s.cmdOp s.resStatus s.resValue s.resCount s.resIllegal :: s.history }

/-! ## INIT and the control-bus commands -/

/-- INIT_BIND binds `{CMD_A[6:0], 0}` and drives the lines to their idle defaults; INIT_CFG sets both pixel-bus bits in one
step; where the invariant holds INIT_BIND changes no visible level (R116, R117). -/
def Obligations.InitStatesBindAndConfigure : Prop :=
  ∀ (i : Instr) (s : State),
    (s.fsm = .initBind → exec i s = .next
      { s with
        cbDevaddr := BitVec.ofNat 8 (2 * (s.cmdA.toNat % 128))
        pd := true, clrData := false, clrPix := false, shutter := false, read := false, adcCsN := true
        fsm := .initCfg, respValid := false }) ∧
    (s.fsm = .initCfg → exec i s = .next
      { s with pbRxth := true, pbEn := true, fsm := .puDrive, respValid := false }) ∧
    (BlockInv s → s.fsm = .initBind → ∃ t, exec i s = .next t ∧ lines t = lines s)

/-- CB_ISSUE posts the request of R118's table and goes to CB_WAIT. -/
def Obligations.IssueStatePostsRequest : Prop :=
  ∀ (a v : Byte) (e : Count32) (s : State), s.fsm = .cbIssue →
    exec (.init a v e) s = .next
      { s with
        cbReq := true, cbKind := .memRead, cbDev := s.cbDevaddr, cbReg := 0xFF, cbData := 0x00, cbTmoMs := 100
        fsm := .cbWait, respValid := false } ∧
    exec (.rdreg a v e) s = .next
      { s with
        cbReq := true, cbKind := .memRead, cbDev := s.cbDevaddr, cbReg := s.cmdA, cbData := 0x00, cbTmoMs := 100
        fsm := .cbWait, respValid := false } ∧
    exec (.wrreg a v e) s = .next
      { s with
        cbReq := true, cbKind := .memWrite, cbDev := s.cbDevaddr, cbReg := s.cmdA, cbData := s.cmdV, cbTmoMs := 100
        fsm := .cbWait, respValid := false } ∧
    exec (.reset a v e) s = .next
      { s with
        cbReq := true, cbKind := .transmit, cbDev := 0x00, cbReg := 0x00, cbData := 0x06, cbTmoMs := 100
        fsm := .cbWait, respValid := false }

/-- CB_WAIT holds without an answer; with one it takes it, records the result as R119 says for the command, and goes to
PWR_DOWN whatever the status is (R119, R121, R122). -/
def Obligations.WaitStateRecordsAnswer : Prop :=
  ∀ (a v : Byte) (e : Count32) (s : State), s.fsm = .cbWait →
    (s.cbRsp = none → ∀ i ∈ [Instr.init a v e, .rdreg a v e, .wrreg a v e, .reset a v e],
      exec i s = .next { s with respValid := false }) ∧
    (∀ x y, s.cbRsp = some (x, y) →
      exec (.init a v e) s = .next
        { s with
          cbRsp := none
          revision := if x = 0 then y else s.revision
          resStatus := if x = 0 then 0x00 else 0x01
          fsm := .pwrDown, respValid := false } ∧
      exec (.rdreg a v e) s = .next
        { s with cbRsp := none, resStatus := x, resValue := y, fsm := .pwrDown, respValid := false } ∧
      exec (.wrreg a v e) s = .next
        { s with cbRsp := none, resStatus := x, fsm := .pwrDown, respValid := false } ∧
      exec (.reset a v e) s = .next
        { s with cbRsp := none, resStatus := x, fsm := .pwrDown, respValid := false })

/-- GETREV from acceptance to response in two steps: status 0, the cached revision, no line, bus, timer or buffer change
(R126). -/
def Obligations.GetrevAnswersRevision : Prop :=
  ∀ (a v : Byte) (e : Count32) (s : State), s.fsm = .idle → s.cmdValid = true →
    ∃ t, exec (.getrev a v e) s = .next t ∧
      exec (.getrev a v e) t = .next
        { s with
          cmdOp := 0x3, cmdA := a, cmdV := v, cmdE := e, cmdValid := false
          resStatus := 0x00, resValue := s.revision, resCount := 0, resIllegal := false
          respOp := 0x3, respStatus := 0x00, respValue := s.revision, respCount := 0, respIllegal := false
          respValid := true
          history := .response 0x3 0x00 s.revision 0 false :: s.history }

/-- A reserved opcode from acceptance to response in two steps: the raw opcode, status 0xFF, RESP_ILLEGAL, and no line,
bus, timer, buffer or handle change (R89, R127). -/
def Obligations.ReservedOpcodeAnsweredIllegal : Prop :=
  ∀ (i : Instr) (s : State), WellFormed i = true → (i.op.toNat = 0 ∨ 7 ≤ i.op.toNat) →
    s.fsm = .idle → s.cmdValid = true →
    ∃ t, exec i s = .next t ∧
      exec i t = .next
        { s with
          cmdOp := i.op, cmdA := i.a, cmdV := i.v, cmdE := i.e, cmdValid := false
          resStatus := 0xFF, resValue := 0x00, resCount := 0, resIllegal := true
          respOp := i.op, respStatus := 0xFF, respValue := 0x00, respCount := 0, respIllegal := true
          respValid := true
          history := .response i.op 0xFF 0x00 0 true :: s.history }

/-! ## CAPTURE, state by state -/

/-- EXP_OPEN, EXP_CLOSE and EXP_WAIT_DRDY (R131, R133, R134), the hold being `max(E, 1)` (R87). -/
def Obligations.ExposureStatesGateShutter : Prop :=
  ∀ (i : Instr) (s : State),
    (s.fsm = .expOpen → exec i s = .next
      { s with
        shutter := true, dlyUs := if s.cmdE = 0 then 1 else s.cmdE, dlyPre := Config.cycPerUs - 1
        fsm := .expHold, respValid := false }) ∧
    (s.fsm = .expClose → exec i s = .next { s with shutter := false, fsm := .expWaitDrdy, respValid := false }) ∧
    (s.fsm = .expWaitDrdy → s.dataRdy = true → exec i s = .next { s with fsm := .rdStrobeHi, respValid := false }) ∧
    (s.fsm = .expWaitDrdy → s.dataRdy = false → exec i s = .next { s with respValid := false })

/-- RD_STROBE_HI, RD_STROBE_LO, RD_LOCK and RD_LOCK_WAIT (R137, R139, R141, R142). -/
def Obligations.ReadoutPreambleStates : Prop :=
  ∀ (i : Instr) (s : State),
    (s.fsm = .rdStrobeHi → exec i s = .next
      { s with
        read := true, dlyUs := 1, dlyPre := Config.cycPerUs - 1, discCnt := 0, pixCnt := 0
        fsm := .rdStrobeWait, respValid := false }) ∧
    (s.fsm = .rdStrobeLo → exec i s = .next
      { s with read := false, dlyUs := 2, dlyPre := Config.cycPerUs - 1, fsm := .rdSettle, respValid := false }) ∧
    (s.fsm = .rdLock → exec i s = .next { s with lockReq := true, fsm := .rdLockWait, respValid := false }) ∧
    (s.fsm = .rdLockWait → s.lockGnt = true → exec i s = .next { s with fsm := .pxCsLo, respValid := false }) ∧
    (s.fsm = .rdLockWait → s.lockGnt = false → exec i s = .next { s with respValid := false })

/-- Steps a to g of a pixel cycle (R143 to R149): the line changes, the queued zero word, and the two polled bytes, the
first into MSB and the second into LSB (R64). -/
def Obligations.PixelCycleStates : Prop :=
  ∀ (i : Instr) (s : State),
    (s.fsm = .pxCsLo → exec i s = .next { s with adcCsN := false, fsm := .pxXferStart, respValid := false }) ∧
    (s.fsm = .pxXferStart → exec i s = .next
      { s with pbTxpend := s.pbTxpend + 2, fsm := .pxStrobeHi, respValid := false }) ∧
    (s.fsm = .pxStrobeHi → exec i s = .next { s with read := true, fsm := .pxWaitMsb, respValid := false }) ∧
    (s.fsm = .pxStrobeLo → exec i s = .next { s with read := false, fsm := .pxWaitLsb, respValid := false }) ∧
    (s.fsm = .pxCsHi → exec i s = .next { s with adcCsN := true, fsm := .pxCommit, respValid := false }) ∧
    (s.fsm = .pxWaitMsb ∨ s.fsm = .pxWaitLsb → s.pbRxq = [] → exec i s = .next { s with respValid := false }) ∧
    (∀ b rest, s.fsm = .pxWaitMsb → s.pbRxq = b :: rest → exec i s = .next
      { s with msb := b, pbRxq := rest, fsm := .pxStrobeLo, respValid := false }) ∧
    (∀ b rest, s.fsm = .pxWaitLsb → s.pbRxq = b :: rest → exec i s = .next
      { s with lsb := b, pbRxq := rest, fsm := .pxCsHi, respValid := false })

/-- PX_COMMIT discards the pair while DISC_CNT is below 4; else it stores `MSB * 128 + LSB / 2` at index PIX_CNT[9:0],
records the write, and goes to RD_UNLOCK exactly after index 1023. HOST reads the stored word there and every other word
as before (R59, R150, R154). -/
def Obligations.CommitDiscardsOrStores : Prop :=
  ∀ (i : Instr) (s : State), s.fsm = .pxCommit →
    (s.discCnt.toNat < 4 → exec i s = .next
      { s with discCnt := s.discCnt + 1, fsm := .pxCsLo, respValid := false }) ∧
    (4 ≤ s.discCnt.toNat →
      let k := BitVec.ofNat 10 s.pixCnt.toNat
      let w := BitVec.ofNat 16 (s.msb.toNat * 128 + s.lsb.toNat / 2)
      ∃ t, exec i s = .next t ∧
        t = { s with
              pixbuf := t.pixbuf
              history := .pixWrite k w :: s.history
              pixCnt := s.pixCnt + 1
              fsm := if s.pixCnt.toNat = 1023 then .rdUnlock else .pxCsLo
              respValid := false } ∧
        Memory.read t.pixbuf k.toNat = some w ∧ readPix t k = w ∧
        (∀ j, j ≠ k.toNat → Memory.read t.pixbuf j = Memory.read s.pixbuf j) ∧
        (∀ j, j ≠ k → readPix t j = readPix s j) ∧
        (Memory.wf s.pixbuf → Memory.wf t.pixbuf))

/-- RD_UNLOCK releases the lock and records the stored-pixel count, which is 1024 wherever the invariant holds
(R157, R158). -/
def Obligations.UnlockRecordsPixelCount : Prop :=
  ∀ (i : Instr) (s : State), s.fsm = .rdUnlock →
    exec i s = .next
      { s with lockReq := false, resCount := s.pixCnt, fsm := .pwrDown, respValid := false } ∧
    (BlockInv s → s.pixCnt = 1024)

/-! ## Durations -/

/-- A wait entered with N microseconds loaded stays in its state for `N * P_CYC_PER_US` core steps, moving no line, and the
next one goes to the successor with the timer at 0 and `P_CYC_PER_US - 1` (R104). -/
def Obligations.WaitLastsLoadedTime : Prop :=
  ∀ (s : State) (next : Fsm), s.schedule = [] → s.rst = false →
    waitSuccessor s.cmdOp s.fsm = some next → s.dlyPre = Config.cycPerUs - 1 →
    (∀ n, n ≤ s.dlyUs.toNat * Config.cycPerUs →
      ∃ t, run n s = .next t ∧ t.fsm = s.fsm ∧ lines t = lines s) ∧
    run (s.dlyUs.toNat * Config.cycPerUs + 1) s = .next
      { s with dlyUs := 0, dlyPre := Config.cycPerUs - 1, fsm := next, respValid := false }

/-- From PU_DRIVE's step, PD is 0 and no request or shutter moves until the body starts, exactly
`12 * P_CYC_PER_US + 2` core steps after it (R105, R106, R107). -/
def Obligations.PowerUpSettlesBeforeUse : Prop :=
  ∀ (s : State), s.schedule = [] → s.rst = false → s.fsm = .puDrive →
    s.cmdOp = 0x1#4 ∨ s.cmdOp = 0x2#4 ∨ s.cmdOp = 0x4#4 ∨ s.cmdOp = 0x5#4 ∨ s.cmdOp = 0x6#4 →
    (∀ n, 1 ≤ n → n ≤ 12 * Config.cycPerUs + 1 →
      ∃ t, run n s = .next t ∧ t.fsm = .puWait ∧ t.pd = false ∧ t.shutter = s.shutter ∧ t.cbReq = s.cbReq) ∧
    run (12 * Config.cycPerUs + 2) s = .next
      { s with
        pd := false, dlyUs := 0, dlyPre := Config.cycPerUs - 1
        fsm := if s.cmdOp = 0x2#4 then .expOpen else .cbIssue
        respValid := false }

/-- SHUTTER is 1 for exactly `H * P_CYC_PER_US + 2` core steps, with `H = max(CMD_E, 1)`, and no other line changes
(R131 to R133, R135). -/
def Obligations.ShutterPulseLength : Prop :=
  ∀ (s : State), s.schedule = [] → s.rst = false → s.fsm = .expOpen →
    let h := max s.cmdE.toNat 1
    (∀ n, 1 ≤ n → n ≤ h * Config.cycPerUs + 2 →
      ∃ t, run n s = .next t ∧ lines t = { lines s with shutter := true }) ∧
    ∃ t, run (h * Config.cycPerUs + 3) s = .next t ∧ t.fsm = .expWaitDrdy ∧
      lines t = { lines s with shutter := false }

/-- A polling state whose test fails holds for any number of core steps, writing nothing but RESP_VALID: no wait of the
block has a timeout (R98, R168). -/
def Obligations.PollHoldsWithoutInput : Prop :=
  ∀ (s : State) (n : Nat), s.schedule = [] → s.rst = false → holding s →
    run (n + 1) s = .next { s with respValid := false }

/-! ## Whole commands -/

/-- INIT from its accepting step to its response, over a schedule in which CBUS alone moves beside CORE and answers after
`k` further holds of CB_WAIT: `12 P + 9 + k` core steps and one CBUS step. The address is bound and the pixel bus
configured on success and failure alike, the revision is cached on success alone, and the status is 0 or 1 (R115, R121,
R201). -/
def Obligations.InitRunsToResponse : Prop :=
  ∀ (s : State) (a v : Byte) (e : Count32) (k : Nat) (x y : Byte),
    s.fsm = .idle → s.rst = false → s.cmdValid = true → s.cbRsp = none → decode s.cmdWord = .init a v e →
    s.schedule = coreTurns (12 * Config.cycPerUs + 6 + k) ++ [.env (.cbus x y)] →
    run (12 * Config.cycPerUs + 10 + k) s = .next
      { s with
        cmdOp := 0x1, cmdA := a, cmdV := v, cmdE := e, cmdValid := false
        cbDevaddr := BitVec.ofNat 8 (2 * (a.toNat % 128)), pbRxth := true, pbEn := true
        revision := if x = 0 then y else s.revision
        pd := true, clrData := false, clrPix := false, shutter := false, read := false, adcCsN := true
        dlyUs := 0, dlyPre := Config.cycPerUs - 1
        cbReq := false, cbKind := .memRead, cbDev := BitVec.ofNat 8 (2 * (a.toNat % 128)), cbReg := 0xFF
        cbData := 0x00, cbTmoMs := 100
        resStatus := if x = 0 then 0x00 else 0x01, resValue := 0x00, resCount := 0, resIllegal := false
        respValid := true, respOp := 0x1, respStatus := if x = 0 then 0x00 else 0x01, respValue := 0x00
        respCount := 0, respIllegal := false
        history := .response 0x1 (if x = 0 then 0x00 else 0x01) 0x00 0 false :: s.history
        schedule := [] }

/-- RDREG from its accepting step to its response, over a schedule in which CBUS alone moves beside CORE, in
`12 P + 7 + k` core steps and one CBUS step: the status verbatim and CBUS's byte whatever the status is; REVISION is not
written (R123, R201). -/
def Obligations.RdregRunsToResponse : Prop :=
  ∀ (s : State) (a v : Byte) (e : Count32) (k : Nat) (x y : Byte),
    s.fsm = .idle → s.rst = false → s.cmdValid = true → s.cbRsp = none → decode s.cmdWord = .rdreg a v e →
    s.schedule = coreTurns (12 * Config.cycPerUs + 4 + k) ++ [.env (.cbus x y)] →
    run (12 * Config.cycPerUs + 8 + k) s = .next
      { s with
        cmdOp := 0x4, cmdA := a, cmdV := v, cmdE := e, cmdValid := false
        pd := true, dlyUs := 0, dlyPre := Config.cycPerUs - 1
        cbReq := false, cbKind := .memRead, cbDev := s.cbDevaddr, cbReg := a, cbData := 0x00, cbTmoMs := 100
        resStatus := x, resValue := y, resCount := 0, resIllegal := false
        respValid := true, respOp := 0x4, respStatus := x, respValue := y, respCount := 0, respIllegal := false
        history := .response 0x4 x y 0 false :: s.history
        schedule := [] }

/-- WRREG from its accepting step to its response, over a schedule in which CBUS alone moves beside CORE, in
`12 P + 7 + k` core steps and one CBUS step: the status verbatim, the read byte discarded (R124, R201). -/
def Obligations.WrregRunsToResponse : Prop :=
  ∀ (s : State) (a v : Byte) (e : Count32) (k : Nat) (x y : Byte),
    s.fsm = .idle → s.rst = false → s.cmdValid = true → s.cbRsp = none → decode s.cmdWord = .wrreg a v e →
    s.schedule = coreTurns (12 * Config.cycPerUs + 4 + k) ++ [.env (.cbus x y)] →
    run (12 * Config.cycPerUs + 8 + k) s = .next
      { s with
        cmdOp := 0x5, cmdA := a, cmdV := v, cmdE := e, cmdValid := false
        pd := true, dlyUs := 0, dlyPre := Config.cycPerUs - 1
        cbReq := false, cbKind := .memWrite, cbDev := s.cbDevaddr, cbReg := a, cbData := v, cbTmoMs := 100
        resStatus := x, resValue := 0x00, resCount := 0, resIllegal := false
        respValid := true, respOp := 0x5, respStatus := x, respValue := 0x00, respCount := 0, respIllegal := false
        history := .response 0x5 x 0x00 0 false :: s.history
        schedule := [] }

/-- RESET from its accepting step to its response, over a schedule in which CBUS alone moves beside CORE, in
`12 P + 7 + k` core steps and one CBUS step: the broadcast of 0x06 to address 0, the status verbatim, and CB_DEVADDR,
REVISION, PB_EN and PB_RXTH as they were (R125, R201). -/
def Obligations.ResetRunsToResponse : Prop :=
  ∀ (s : State) (a v : Byte) (e : Count32) (k : Nat) (x y : Byte),
    s.fsm = .idle → s.rst = false → s.cmdValid = true → s.cbRsp = none → decode s.cmdWord = .reset a v e →
    s.schedule = coreTurns (12 * Config.cycPerUs + 4 + k) ++ [.env (.cbus x y)] →
    run (12 * Config.cycPerUs + 8 + k) s = .next
      { s with
        cmdOp := 0x6, cmdA := a, cmdV := v, cmdE := e, cmdValid := false
        pd := true, dlyUs := 0, dlyPre := Config.cycPerUs - 1
        cbReq := false, cbKind := .transmit, cbDev := 0x00, cbReg := 0x00, cbData := 0x06, cbTmoMs := 100
        resStatus := x, resValue := 0x00, resCount := 0, resIllegal := false
        respValid := true, respOp := 0x6, respStatus := x, respValue := 0x00, respCount := 0, respIllegal := false
        history := .response 0x6 x 0x00 0 false :: s.history
        schedule := [] }

/-- The readout loop from its first PX_CS_LO, over a schedule in which PIXBUS alone moves beside CORE and clocks both bytes
of each transfer in time: 1028 pixel cycles, the first four pairs discarded, and word `i` of PIXBUF built from bytes
`2 i + 8` and `2 i + 9` of the bytes in order. Bytes already in the queue are read first and as many are left over
(R143 to R156, R160). -/
def Obligations.ReadoutLoopStoresStream : Prop :=
  ∀ (s : State) (bytes : Nat → Byte) (rest : List Turn),
    s.fsm = .pxCsLo → s.rst = false → s.discCnt = 0 → s.pixCnt = 0 → s.pbEn = true → s.pbRxth = true →
    s.schedule = readoutTurns bytes 0 1028 ++ rest →
    let stream := byteStream s.pbRxq bytes
    ∃ t, run 10280 s = .next t ∧
      t = { s with
            fsm := .rdUnlock, adcCsN := true, read := false, msb := stream 2054, lsb := stream 2055
            discCnt := 4, pixCnt := 1024, respValid := false
            pbRxq := (List.range s.pbRxq.length).map fun j => stream (2056 + j)
            pixbuf := t.pixbuf
            history := storeEvents stream 1024 ++ s.history
            schedule := rest } ∧
      (∀ i, i < 1024 → Memory.read t.pixbuf i = some (streamSample stream i)) ∧
      (∀ i, 1024 ≤ i → Memory.read t.pixbuf i = Memory.read s.pixbuf i)

/-- CAPTURE from its accepting step to its response, with DATA_RDY 1 and over one schedule: ARBITER grants at once, PIXBUS
clocks each transfer's bytes in time, and no other agent moves. It takes `8240 + P * (H + 15)` core steps,
`H = max(E, 1)`, beside one grant and 2056 bytes. The lines CAPTURE moves (PD, SHUTTER, READ, ADC_CS_N) are back at their
idle levels and CLR_DATA and CLR_PIX are as they were, RESP_COUNT is 1024, and the words are those of the readout loop
(R130, R153, R158, R201). -/
def Obligations.CaptureRunsToResponse : Prop :=
  ∀ (s : State) (a v : Byte) (e : Count32) (bytes : Nat → Byte),
    s.fsm = .idle → s.rst = false → s.cmdValid = true → s.pbEn = true → s.pbRxth = true →
    s.dataRdy = true → s.lockGnt = false → decode s.cmdWord = .capture a v e →
    let h := max e.toNat 1
    s.schedule = coreTurns (Config.cycPerUs * (h + 15) + 12) ++ [.env .grant] ++ coreTurns 1 ++
      readoutTurns bytes 0 1028 →
    let stream := byteStream s.pbRxq bytes
    ∃ t, run (8240 + Config.cycPerUs * (h + 15) + 2057) s = .next t ∧
      t = { s with
            cmdOp := 0x2, cmdA := a, cmdV := v, cmdE := e, cmdValid := false
            pd := true, shutter := false, read := false, adcCsN := true
            dlyUs := 0, dlyPre := Config.cycPerUs - 1
            msb := stream 2054, lsb := stream 2055, discCnt := 4, pixCnt := 1024
            lockReq := false, lockGnt := true
            pbRxq := (List.range s.pbRxq.length).map fun j => stream (2056 + j)
            pixbuf := t.pixbuf
            resStatus := 0x00, resValue := 0x00, resCount := 1024, resIllegal := false
            respValid := true, respOp := 0x2, respStatus := 0x00, respValue := 0x00, respCount := 1024
            respIllegal := false
            history := .response 0x2 0x00 0x00 1024 false :: (storeEvents stream 1024 ++ s.history)
            schedule := [] } ∧
      (∀ i, i < 1024 → Memory.read t.pixbuf i = some (streamSample stream i)) ∧
      (∀ i, 1024 ≤ i → Memory.read t.pixbuf i = Memory.read s.pixbuf i)

/-! ## Invariants -/

/-- The state after reset is a clean launch and meets both invariants (R52, R185). -/
def Obligations.ResetMeetsInvariants : Prop :=
  CleanLaunch State.reset ∧ BlockInv State.reset ∧ CleanHandshakes State.reset

/-- Every clean launch meets both invariants (R53, R54, R185). -/
def Obligations.CleanLaunchMeetsInvariants : Prop :=
  ∀ s : State, CleanLaunch s → BlockInv s ∧ CleanHandshakes s

/-- The invariant of the block is kept by every step of every agent, a reset among them: the line levels of each state,
the grant of the pixel-bus lock from the first pixel cycle to RD_UNLOCK (R77 (a), R142), the counter ranges, the path of
the latched command, the result registers and the buffer's canonical form (R53, R54, R95, R112). -/
def Obligations.StepKeepsBlockInv : Prop :=
  ∀ s t : State, BlockInv s → step s = .next t → BlockInv t

/-- The handshakes with CBUS and PIXBUS are kept by every step taken out of reset: one transaction a command and none
left over, never more than the current transfer's bytes (R54, R120). -/
def Obligations.StepKeepsCleanHandshakes : Prop :=
  ∀ s t : State, s.rst = false → CleanHandshakes s → step s = .next t → CleanHandshakes t

/-- Whatever the schedule, as long as it never raises the reset input, a run from a clean launch keeps both invariants
(R120, R185). -/
def Obligations.CleanRunsStayClean : Prop :=
  ∀ (s t : State) (n : Nat), CleanLaunch s → Turn.env (.hostRst true) ∉ s.schedule → run n s = .next t →
    BlockInv t ∧ CleanHandshakes t ∧ t.rst = false

/-- Where the invariant holds no step of any agent ends in a fault (R113, R170). -/
def Obligations.NoFaultFromInvariant : Prop :=
  ∀ (s : State) (f : Fault), BlockInv s → step s ≠ .fault f

/-- Where the invariant holds a core step has a next state, except where an unconfigured CAPTURE is being accepted
(R113, R161). -/
def Obligations.CoreStepIsTotal : Prop :=
  ∀ s : State, BlockInv s →
    (∃ t, coreStep s = .next t) ∨
    (coreStep s = .refused .captureUnconfigured ∧ s.rst = false ∧ s.fsm = .idle ∧ s.cmdValid = true ∧
      s.cmdWord.toNat % 16 = 2 ∧ s.pbEn = false)

/-- In IDLE the lines are at their idle levels and no control-bus transaction is outstanding (R53); and, the handshakes
being those of a clean launch, no pixel-bus byte is queued or left unread (R160, R197). -/
def Obligations.IdleInvariant : Prop :=
  ∀ s : State, BlockInv s → CleanHandshakes s → s.fsm = .idle →
    lines s = { pd := true, clrData := false, clrPix := false, shutter := false, read := false, adcCsN := true } ∧
    s.lockReq = false ∧ s.cbReq = false ∧ s.cbRsp = none ∧ s.pbTxpend = 0 ∧ s.pbRxq = []

/-- The range invariants of R54. -/
def Obligations.RangeInvariants : Prop :=
  ∀ s : State, BlockInv s → CleanHandshakes s →
    s.discCnt.toNat ≤ 4 ∧ s.pixCnt.toNat ≤ 1024 ∧ s.pbTxpend ≤ 2 ∧ s.dlyPre < Config.cycPerUs ∧
    (0x11 ≤ (fsmCode s.fsm).toNat ∧ (fsmCode s.fsm).toNat ≤ 0x18 → s.pixCnt.toNat ≤ 1023)

/-- PD is 0 exactly in the states with codes 0x04 to 0x1A (R110). -/
def Obligations.SensorPoweredStates : Prop :=
  ∀ s : State, BlockInv s →
    (s.pd = false ↔ 0x04 ≤ (fsmCode s.fsm).toNat ∧ (fsmCode s.fsm).toNat ≤ 0x1A)

/-- Every word the block writes has bit 15 equal to 0, whatever the buffer held at launch: the write event of a step has it
0, and so has every word that PIXBUF holds after the step and did not hold before. So a buffer whose words all have it 0
keeps that (R65, R155). -/
def Obligations.StoredWordsKeepBitFifteenClear : Prop :=
  ∀ s t : State, step s = .next t →
    (t.history = s.history ∨
      ∃ event, t.history = event :: s.history ∧ ∀ i w, event = .pixWrite i w → w.getLsbD 15 = false) ∧
    (∀ i w, Memory.read t.pixbuf i = some w → Memory.read s.pixbuf i ≠ some w → w.getLsbD 15 = false) ∧
    ((∀ p ∈ s.pixbuf, p.2.getLsbD 15 = false) → ∀ p ∈ t.pixbuf, p.2.getLsbD 15 = false)

/-! ## Rules over all commands and agents -/

/-- STATE moves along the paths of R112 only: out of reset, a core step inside a command goes to a successor of its state,
and one that accepts goes to the first state of the body. -/
def Obligations.StateFollowsCommandPath : Prop :=
  ∀ s t : State, BlockInv s → s.rst = false → coreStep s = .next t →
    (s.fsm ≠ .idle → t.fsm ∈ successors s.cmdOp s.fsm) ∧
    (s.fsm = .idle → s.cmdValid = true → t.fsm = firstState (BitVec.ofNat 4 s.cmdWord.toNat)) ∧
    (s.fsm = .idle → s.cmdValid = false → t.fsm = .idle)

/-- Out of reset, CB_DEVADDR changes in INIT_BIND alone, REVISION in INIT's CB_WAIT on success alone, and the pixel-bus bits
in INIT_CFG alone, which sets both (R24, R25, R26). -/
def Obligations.HandleWrittenOnlyByInit : Prop :=
  ∀ s t : State, s.rst = false → step s = .next t →
    (t.cbDevaddr ≠ s.cbDevaddr → s.fsm = .initBind ∧ t.cbDevaddr = BitVec.ofNat 8 (2 * (s.cmdA.toNat % 128))) ∧
    (t.revision ≠ s.revision → s.fsm = .cbWait ∧ s.cmdOp = 0x1#4 ∧ s.cbRsp = some (0, t.revision)) ∧
    ((t.pbEn ≠ s.pbEn ∨ t.pbRxth ≠ s.pbRxth) → s.fsm = .initCfg ∧ t.pbEn = true ∧ t.pbRxth = true)

/-- PIXBUF changes in PX_COMMIT alone, after four discards, at the index PIX_CNT[9:0] alone (R59, R74, R150). -/
def Obligations.BufferWrittenOnlyByCommit : Prop :=
  ∀ s t : State, step s = .next t → t.pixbuf ≠ s.pixbuf →
    s.fsm = .pxCommit ∧ s.rst = false ∧ 4 ≤ s.discCnt.toNat ∧
    ∀ j, j ≠ s.pixCnt.toNat % 1024 → Memory.read t.pixbuf j = Memory.read s.pixbuf j

/-- No step depends on what PIXBUF holds: with another buffer the same step is taken, to the same state but for the
buffer, or stops for the same reason (R60). -/
def Obligations.BufferContentsNeverRead : Prop :=
  ∀ (s : State) (m : List (Nat × PixWord)),
    (∀ t, step s = .next t →
      ∃ t', step { s with pixbuf := m } = .next t' ∧ { t' with pixbuf := t.pixbuf } = t) ∧
    (∀ f, step s = .fault f → step { s with pixbuf := m } = .fault f) ∧
    (∀ r, step s = .refused r → step { s with pixbuf := m } = .refused r)

/-- Out of reset a core step leaves RESP_VALID at 1 exactly when it is RESPOND's, and the other response registers change
in no other step (R97, R111, R195). -/
def Obligations.ResponseIsOneStepPulse : Prop :=
  ∀ s t : State, s.rst = false → coreStep s = .next t →
    (t.respValid = true ↔ s.fsm = .respond) ∧
    (s.fsm ≠ .respond →
      t.respOp = s.respOp ∧ t.respStatus = s.respStatus ∧ t.respValue = s.respValue ∧
      t.respCount = s.respCount ∧ t.respIllegal = s.respIllegal)

/-- The response of a command is the row of R95's table for its opcode, where the invariant holds. -/
def Obligations.ResponseMeetsTable : Prop :=
  ∀ s : State, BlockInv s → s.fsm = .respond → s.rst = false →
    ∃ t, coreStep s = .next t ∧ t.respOp = s.cmdOp ∧
      (s.cmdOp = 0x1#4 → (t.respStatus = 0 ∨ t.respStatus = 1) ∧ t.respValue = 0 ∧ t.respCount = 0 ∧
        t.respIllegal = false) ∧
      (s.cmdOp = 0x2#4 → t.respStatus = 0 ∧ t.respValue = 0 ∧ t.respCount = 1024 ∧ t.respIllegal = false) ∧
      (s.cmdOp = 0x3#4 → t.respStatus = 0 ∧ t.respValue = s.revision ∧ t.respCount = 0 ∧
        t.respIllegal = false) ∧
      (s.cmdOp = 0x4#4 → t.respStatus = s.resStatus ∧ t.respValue = s.resValue ∧ t.respCount = 0 ∧
        t.respIllegal = false) ∧
      (s.cmdOp = 0x5#4 ∨ s.cmdOp = 0x6#4 → t.respStatus = s.resStatus ∧ t.respValue = 0 ∧ t.respCount = 0 ∧
        t.respIllegal = false) ∧
      (s.cmdOp = 0x0#4 ∨ 0x7#4 ≤ s.cmdOp → t.respStatus = 0xFF ∧ t.respValue = 0 ∧ t.respCount = 0 ∧
        t.respIllegal = true)

/-- A posted word is consumed in IDLE alone, by the step that latches its opcode, and no posted word is overwritten
(R40, R99, R101, R193). -/
def Obligations.PostedWordWaitsForIdle : Prop :=
  ∀ s t : State, s.cmdValid = true → step s = .next t →
    t.cmdWord = s.cmdWord ∧
    (t.cmdValid = false → s.fsm = .idle ∧ s.rst = false ∧ t.cmdOp = BitVec.ofNat 4 s.cmdWord.toNat)

/-- The steps of the environment agents: what each does when it is enabled, and that it has no step otherwise (R40, R43,
R44, R47, R48, R50). HOST's two reads are always enabled and have no effect on the block. The refusals' names, and CBUS's
answer to a request that a reset removed, are the model's (assumptions 6 and 8). -/
def Obligations.EnvironmentStepsAsOwned : Prop :=
  ∀ s : State,
    (∀ w, s.cmdValid = false → envStep (.hostPost w) s = .next { s with cmdWord := w, cmdValid := true }) ∧
    (∀ w, s.cmdValid = true → envStep (.hostPost w) s = .refused .hostPostWhileValid) ∧
    (∀ i, envStep (.hostReadPix i) s = .next s) ∧
    envStep .hostReadRegs s = .next s ∧
    (∀ l, envStep (.sensor l) s = .next { s with dataRdy := l }) ∧
    (∀ l, envStep (.hostRst l) s = .next { s with rst := l }) ∧
    (∀ b, s.pbEn = true → s.pbRxth = true → 0 < s.pbTxpend → envStep (.pixbus b) s = .next
      { s with pbTxpend := s.pbTxpend - 1, pbRxq := s.pbRxq ++ [b] }) ∧
    (∀ b, s.pbEn = false ∨ s.pbRxth = false ∨ s.pbTxpend = 0 →
      envStep (.pixbus b) s = .refused .pixbusNotEnabled) ∧
    (∀ x y, s.cbReq = true → s.cbRsp = none → envStep (.cbus x y) s = .next
      { s with cbReq := false, cbRsp := some (x, y) }) ∧
    (∀ x y, s.cbReq = false ∨ s.cbRsp ≠ none → envStep (.cbus x y) s = .refused .cbusNotEnabled) ∧
    (∀ x y, s.cbLate = true → s.cbRsp = none → envStep (.cbusLate x y) s = .next
      { s with cbLate := false, cbRsp := some (x, y) }) ∧
    (∀ x y, s.cbLate = false ∨ s.cbRsp ≠ none → envStep (.cbusLate x y) s = .refused .cbusLateNotEnabled) ∧
    (s.lockReq = true → s.lockGnt = false → envStep .grant s = .next { s with lockGnt := true }) ∧
    (s.lockReq = false → s.lockGnt = true → envStep .release s = .next { s with lockGnt := false }) ∧
    (s.lockReq = false ∨ s.lockGnt = true → envStep .grant s = .refused .arbiterNotEnabled) ∧
    (s.lockReq = true ∨ s.lockGnt = false → envStep .release s = .refused .arbiterNotEnabled)

/-- The status bits and the host's view. BUSY is 1 exactly outside IDLE and CMD_READY exactly in IDLE (R39), PB_RX_READY
exactly when a byte is unread (R41), HOST reads CMD_VALID, those bits and the response registers as they are (R56), and a
core step out of reset consumes a posted word exactly where CMD_READY is 1 (R99, R101); there it always does, but for a
CAPTURE that finds the pixel bus unconfigured (R161). -/
def Obligations.StatusBitsTellState : Prop :=
  ∀ s : State,
    (busy s = true ↔ s.fsm ≠ .idle) ∧ (cmdReady s = true ↔ s.fsm = .idle) ∧
    (pbRxReady s = true ↔ s.pbRxq ≠ []) ∧
    hostView s =
      { cmdValid := s.cmdValid, cmdReady := cmdReady s, busy := busy s, respValid := s.respValid, respOp := s.respOp
        respStatus := s.respStatus, respValue := s.respValue, respCount := s.respCount
        respIllegal := s.respIllegal } ∧
    (∀ t, s.rst = false → s.cmdValid = true → coreStep s = .next t → (t.cmdValid = false ↔ cmdReady s = true)) ∧
    (s.rst = false → s.cmdValid = true → cmdReady s = true →
      (s.cmdWord.toNat % 16 = 2 → s.pbEn = true ∧ s.pbRxth = true) →
      ∃ t, coreStep s = .next t ∧ t.cmdValid = false ∧ t.cmdOp = BitVec.ofNat 4 s.cmdWord.toNat)

/-- A step of an environment agent changes interface cells alone: every core register but CB_REQ, which CBUS may only clear,
PIXBUF and the history stay (R51). -/
def Obligations.EnvironmentLeavesCoreRegisters : Prop :=
  ∀ (e : EnvStep) (s t : State), envStep e s = .next t →
    t = { s with
          cmdValid := t.cmdValid, cmdWord := t.cmdWord, pbTxpend := t.pbTxpend, pbRxq := t.pbRxq
          dataRdy := t.dataRdy, cbReq := t.cbReq, cbRsp := t.cbRsp, lockGnt := t.lockGnt, rst := t.rst
          cbLate := t.cbLate } ∧
    (t.cbReq = true → s.cbReq = true) ∧ (s.cmdValid = true → t.cmdValid = true) ∧ t.pbTxpend ≤ s.pbTxpend

/-- Bits that a command does not use change nothing but the cell that holds them: two states that differ in such bits of
the posted word (the reserved fields W[7:4] and W[31:24] and the unused fields) and of the latched fields step to two
states that do so again, with every line, request, response and stored word alike, or stop for the same reason. CAPTURE 0
and CAPTURE 1 are such a pair (R84, R86, R92). -/
def Obligations.IgnoredFieldsChangeNothing : Prop :=
  ∀ s t : State, BlockInv s → DiffersInIgnoredFields s t →
    (∀ s', step s = .next s' → ∃ t', step t = .next t' ∧ DiffersInIgnoredFields s' t') ∧
    (∀ r, step s = .refused r → step t = .refused r)

/-! ## Operands -/

/-- The sample is `MSB * 128 + LSB / 2`, its bits come from where R155's table says, it stays within 15 bits, within 14
exactly when MSB[7] is 0, and two pairs give one word exactly when MSB and LSB[7:1] agree (R154, R155). -/
def Obligations.SampleReassembly : Prop :=
  ∀ m l : Byte,
    (sample16 m l).toNat = m.toNat * 128 + l.toNat / 2 ∧
    (sample16 m l).getLsbD 15 = false ∧
    (sample16 m l).extractLsb' 7 8 = m ∧
    (sample16 m l).extractLsb' 0 7 = l.extractLsb' 1 7 ∧
    (sample16 m l).toNat ≤ 0x7FFF ∧
    ((sample16 m l).toNat ≤ 0x3FFF ↔ m.getLsbD 7 = false) ∧
    (∀ m' l' : Byte, sample16 m l = sample16 m' l' ↔ m = m' ∧ l.extractLsb' 1 7 = l'.extractLsb' 1 7)

/-- The device address is `(A << 1) & 0xFF` with bit 0 at 0 and A[7] dropped, and the hold is `max(E, 1)`
(R86, R87). -/
def Obligations.OperandAssembly : Prop :=
  (∀ a : Byte, devAddr a = a <<< 1 ∧ (devAddr a).getLsbD 0 = false ∧ devAddr (a ^^^ 0x80) = devAddr a) ∧
  devAddr 0x15 = 0x2A ∧ devAddr 0x7F = 0xFE ∧ devAddr 0x80 = 0x00 ∧
  (∀ e : Count32, (holdUs e).toNat = max e.toNat 1)
end

