-- ==== Sys2Proof/Laws/State.lean ====
section
/-! SUPPORT. For each named update of the state, what every field of the result is: no later proof unfolds a record
update. -/

namespace Sys2Proof.Machine

/-! ## `goto` -/

@[simp] theorem goto_fsm (n : Fsm) (s : State) : (goto n s).fsm = n := rfl
@[simp] theorem goto_cmdOp (n : Fsm) (s : State) : (goto n s).cmdOp = s.cmdOp := rfl
@[simp] theorem goto_cmdA (n : Fsm) (s : State) : (goto n s).cmdA = s.cmdA := rfl
@[simp] theorem goto_cmdV (n : Fsm) (s : State) : (goto n s).cmdV = s.cmdV := rfl
@[simp] theorem goto_cmdE (n : Fsm) (s : State) : (goto n s).cmdE = s.cmdE := rfl
@[simp] theorem goto_cbDevaddr (n : Fsm) (s : State) : (goto n s).cbDevaddr = s.cbDevaddr := rfl
@[simp] theorem goto_revision (n : Fsm) (s : State) : (goto n s).revision = s.revision := rfl
@[simp] theorem goto_pbRxth (n : Fsm) (s : State) : (goto n s).pbRxth = s.pbRxth := rfl
@[simp] theorem goto_pbEn (n : Fsm) (s : State) : (goto n s).pbEn = s.pbEn := rfl
@[simp] theorem goto_pd (n : Fsm) (s : State) : (goto n s).pd = s.pd := rfl
@[simp] theorem goto_clrData (n : Fsm) (s : State) : (goto n s).clrData = s.clrData := rfl
@[simp] theorem goto_clrPix (n : Fsm) (s : State) : (goto n s).clrPix = s.clrPix := rfl
@[simp] theorem goto_shutter (n : Fsm) (s : State) : (goto n s).shutter = s.shutter := rfl
@[simp] theorem goto_read (n : Fsm) (s : State) : (goto n s).read = s.read := rfl
@[simp] theorem goto_adcCsN (n : Fsm) (s : State) : (goto n s).adcCsN = s.adcCsN := rfl
@[simp] theorem goto_dlyUs (n : Fsm) (s : State) : (goto n s).dlyUs = s.dlyUs := rfl
@[simp] theorem goto_dlyPre (n : Fsm) (s : State) : (goto n s).dlyPre = s.dlyPre := rfl
@[simp] theorem goto_msb (n : Fsm) (s : State) : (goto n s).msb = s.msb := rfl
@[simp] theorem goto_lsb (n : Fsm) (s : State) : (goto n s).lsb = s.lsb := rfl
@[simp] theorem goto_discCnt (n : Fsm) (s : State) : (goto n s).discCnt = s.discCnt := rfl
@[simp] theorem goto_pixCnt (n : Fsm) (s : State) : (goto n s).pixCnt = s.pixCnt := rfl
@[simp] theorem goto_lockReq (n : Fsm) (s : State) : (goto n s).lockReq = s.lockReq := rfl
@[simp] theorem goto_resStatus (n : Fsm) (s : State) : (goto n s).resStatus = s.resStatus := rfl
@[simp] theorem goto_resValue (n : Fsm) (s : State) : (goto n s).resValue = s.resValue := rfl
@[simp] theorem goto_resCount (n : Fsm) (s : State) : (goto n s).resCount = s.resCount := rfl
@[simp] theorem goto_resIllegal (n : Fsm) (s : State) : (goto n s).resIllegal = s.resIllegal := rfl
@[simp] theorem goto_respValid (n : Fsm) (s : State) : (goto n s).respValid = false := rfl
@[simp] theorem goto_respOp (n : Fsm) (s : State) : (goto n s).respOp = s.respOp := rfl
@[simp] theorem goto_respStatus (n : Fsm) (s : State) : (goto n s).respStatus = s.respStatus := rfl
@[simp] theorem goto_respValue (n : Fsm) (s : State) : (goto n s).respValue = s.respValue := rfl
@[simp] theorem goto_respCount (n : Fsm) (s : State) : (goto n s).respCount = s.respCount := rfl
@[simp] theorem goto_respIllegal (n : Fsm) (s : State) : (goto n s).respIllegal = s.respIllegal := rfl
@[simp] theorem goto_cbReq (n : Fsm) (s : State) : (goto n s).cbReq = s.cbReq := rfl
@[simp] theorem goto_cbKind (n : Fsm) (s : State) : (goto n s).cbKind = s.cbKind := rfl
@[simp] theorem goto_cbDev (n : Fsm) (s : State) : (goto n s).cbDev = s.cbDev := rfl
@[simp] theorem goto_cbReg (n : Fsm) (s : State) : (goto n s).cbReg = s.cbReg := rfl
@[simp] theorem goto_cbData (n : Fsm) (s : State) : (goto n s).cbData = s.cbData := rfl
@[simp] theorem goto_cbTmoMs (n : Fsm) (s : State) : (goto n s).cbTmoMs = s.cbTmoMs := rfl
@[simp] theorem goto_cmdValid (n : Fsm) (s : State) : (goto n s).cmdValid = s.cmdValid := rfl
@[simp] theorem goto_cmdWord (n : Fsm) (s : State) : (goto n s).cmdWord = s.cmdWord := rfl
@[simp] theorem goto_pbTxpend (n : Fsm) (s : State) : (goto n s).pbTxpend = s.pbTxpend := rfl
@[simp] theorem goto_pbRxq (n : Fsm) (s : State) : (goto n s).pbRxq = s.pbRxq := rfl
@[simp] theorem goto_dataRdy (n : Fsm) (s : State) : (goto n s).dataRdy = s.dataRdy := rfl
@[simp] theorem goto_cbRsp (n : Fsm) (s : State) : (goto n s).cbRsp = s.cbRsp := rfl
@[simp] theorem goto_lockGnt (n : Fsm) (s : State) : (goto n s).lockGnt = s.lockGnt := rfl
@[simp] theorem goto_rst (n : Fsm) (s : State) : (goto n s).rst = s.rst := rfl
@[simp] theorem goto_pixbuf (n : Fsm) (s : State) : (goto n s).pixbuf = s.pixbuf := rfl
@[simp] theorem goto_cbLate (n : Fsm) (s : State) : (goto n s).cbLate = s.cbLate := rfl
@[simp] theorem goto_history (n : Fsm) (s : State) : (goto n s).history = s.history := rfl
@[simp] theorem goto_schedule (n : Fsm) (s : State) : (goto n s).schedule = s.schedule := rfl

/-! ## `hold` -/

@[simp] theorem hold_fsm (s : State) : (hold s).fsm = s.fsm := rfl
@[simp] theorem hold_cmdOp (s : State) : (hold s).cmdOp = s.cmdOp := rfl
@[simp] theorem hold_cmdA (s : State) : (hold s).cmdA = s.cmdA := rfl
@[simp] theorem hold_cmdV (s : State) : (hold s).cmdV = s.cmdV := rfl
@[simp] theorem hold_cmdE (s : State) : (hold s).cmdE = s.cmdE := rfl
@[simp] theorem hold_cbDevaddr (s : State) : (hold s).cbDevaddr = s.cbDevaddr := rfl
@[simp] theorem hold_revision (s : State) : (hold s).revision = s.revision := rfl
@[simp] theorem hold_pbRxth (s : State) : (hold s).pbRxth = s.pbRxth := rfl
@[simp] theorem hold_pbEn (s : State) : (hold s).pbEn = s.pbEn := rfl
@[simp] theorem hold_pd (s : State) : (hold s).pd = s.pd := rfl
@[simp] theorem hold_clrData (s : State) : (hold s).clrData = s.clrData := rfl
@[simp] theorem hold_clrPix (s : State) : (hold s).clrPix = s.clrPix := rfl
@[simp] theorem hold_shutter (s : State) : (hold s).shutter = s.shutter := rfl
@[simp] theorem hold_read (s : State) : (hold s).read = s.read := rfl
@[simp] theorem hold_adcCsN (s : State) : (hold s).adcCsN = s.adcCsN := rfl
@[simp] theorem hold_dlyUs (s : State) : (hold s).dlyUs = s.dlyUs := rfl
@[simp] theorem hold_dlyPre (s : State) : (hold s).dlyPre = s.dlyPre := rfl
@[simp] theorem hold_msb (s : State) : (hold s).msb = s.msb := rfl
@[simp] theorem hold_lsb (s : State) : (hold s).lsb = s.lsb := rfl
@[simp] theorem hold_discCnt (s : State) : (hold s).discCnt = s.discCnt := rfl
@[simp] theorem hold_pixCnt (s : State) : (hold s).pixCnt = s.pixCnt := rfl
@[simp] theorem hold_lockReq (s : State) : (hold s).lockReq = s.lockReq := rfl
@[simp] theorem hold_resStatus (s : State) : (hold s).resStatus = s.resStatus := rfl
@[simp] theorem hold_resValue (s : State) : (hold s).resValue = s.resValue := rfl
@[simp] theorem hold_resCount (s : State) : (hold s).resCount = s.resCount := rfl
@[simp] theorem hold_resIllegal (s : State) : (hold s).resIllegal = s.resIllegal := rfl
@[simp] theorem hold_respValid (s : State) : (hold s).respValid = false := rfl
@[simp] theorem hold_respOp (s : State) : (hold s).respOp = s.respOp := rfl
@[simp] theorem hold_respStatus (s : State) : (hold s).respStatus = s.respStatus := rfl
@[simp] theorem hold_respValue (s : State) : (hold s).respValue = s.respValue := rfl
@[simp] theorem hold_respCount (s : State) : (hold s).respCount = s.respCount := rfl
@[simp] theorem hold_respIllegal (s : State) : (hold s).respIllegal = s.respIllegal := rfl
@[simp] theorem hold_cbReq (s : State) : (hold s).cbReq = s.cbReq := rfl
@[simp] theorem hold_cbKind (s : State) : (hold s).cbKind = s.cbKind := rfl
@[simp] theorem hold_cbDev (s : State) : (hold s).cbDev = s.cbDev := rfl
@[simp] theorem hold_cbReg (s : State) : (hold s).cbReg = s.cbReg := rfl
@[simp] theorem hold_cbData (s : State) : (hold s).cbData = s.cbData := rfl
@[simp] theorem hold_cbTmoMs (s : State) : (hold s).cbTmoMs = s.cbTmoMs := rfl
@[simp] theorem hold_cmdValid (s : State) : (hold s).cmdValid = s.cmdValid := rfl
@[simp] theorem hold_cmdWord (s : State) : (hold s).cmdWord = s.cmdWord := rfl
@[simp] theorem hold_pbTxpend (s : State) : (hold s).pbTxpend = s.pbTxpend := rfl
@[simp] theorem hold_pbRxq (s : State) : (hold s).pbRxq = s.pbRxq := rfl
@[simp] theorem hold_dataRdy (s : State) : (hold s).dataRdy = s.dataRdy := rfl
@[simp] theorem hold_cbRsp (s : State) : (hold s).cbRsp = s.cbRsp := rfl
@[simp] theorem hold_lockGnt (s : State) : (hold s).lockGnt = s.lockGnt := rfl
@[simp] theorem hold_rst (s : State) : (hold s).rst = s.rst := rfl
@[simp] theorem hold_pixbuf (s : State) : (hold s).pixbuf = s.pixbuf := rfl
@[simp] theorem hold_cbLate (s : State) : (hold s).cbLate = s.cbLate := rfl
@[simp] theorem hold_history (s : State) : (hold s).history = s.history := rfl
@[simp] theorem hold_schedule (s : State) : (hold s).schedule = s.schedule := rfl

/-! ## `load` -/

@[simp] theorem load_fsm (n : Count32) (s : State) : (load n s).fsm = s.fsm := rfl
@[simp] theorem load_cmdOp (n : Count32) (s : State) : (load n s).cmdOp = s.cmdOp := rfl
@[simp] theorem load_cmdA (n : Count32) (s : State) : (load n s).cmdA = s.cmdA := rfl
@[simp] theorem load_cmdV (n : Count32) (s : State) : (load n s).cmdV = s.cmdV := rfl
@[simp] theorem load_cmdE (n : Count32) (s : State) : (load n s).cmdE = s.cmdE := rfl
@[simp] theorem load_cbDevaddr (n : Count32) (s : State) : (load n s).cbDevaddr = s.cbDevaddr := rfl
@[simp] theorem load_revision (n : Count32) (s : State) : (load n s).revision = s.revision := rfl
@[simp] theorem load_pbRxth (n : Count32) (s : State) : (load n s).pbRxth = s.pbRxth := rfl
@[simp] theorem load_pbEn (n : Count32) (s : State) : (load n s).pbEn = s.pbEn := rfl
@[simp] theorem load_pd (n : Count32) (s : State) : (load n s).pd = s.pd := rfl
@[simp] theorem load_clrData (n : Count32) (s : State) : (load n s).clrData = s.clrData := rfl
@[simp] theorem load_clrPix (n : Count32) (s : State) : (load n s).clrPix = s.clrPix := rfl
@[simp] theorem load_shutter (n : Count32) (s : State) : (load n s).shutter = s.shutter := rfl
@[simp] theorem load_read (n : Count32) (s : State) : (load n s).read = s.read := rfl
@[simp] theorem load_adcCsN (n : Count32) (s : State) : (load n s).adcCsN = s.adcCsN := rfl
@[simp] theorem load_dlyUs (n : Count32) (s : State) : (load n s).dlyUs = n := rfl
@[simp] theorem load_dlyPre (n : Count32) (s : State) : (load n s).dlyPre = Config.cycPerUs - 1 := rfl
@[simp] theorem load_msb (n : Count32) (s : State) : (load n s).msb = s.msb := rfl
@[simp] theorem load_lsb (n : Count32) (s : State) : (load n s).lsb = s.lsb := rfl
@[simp] theorem load_discCnt (n : Count32) (s : State) : (load n s).discCnt = s.discCnt := rfl
@[simp] theorem load_pixCnt (n : Count32) (s : State) : (load n s).pixCnt = s.pixCnt := rfl
@[simp] theorem load_lockReq (n : Count32) (s : State) : (load n s).lockReq = s.lockReq := rfl
@[simp] theorem load_resStatus (n : Count32) (s : State) : (load n s).resStatus = s.resStatus := rfl
@[simp] theorem load_resValue (n : Count32) (s : State) : (load n s).resValue = s.resValue := rfl
@[simp] theorem load_resCount (n : Count32) (s : State) : (load n s).resCount = s.resCount := rfl
@[simp] theorem load_resIllegal (n : Count32) (s : State) : (load n s).resIllegal = s.resIllegal := rfl
@[simp] theorem load_respValid (n : Count32) (s : State) : (load n s).respValid = s.respValid := rfl
@[simp] theorem load_respOp (n : Count32) (s : State) : (load n s).respOp = s.respOp := rfl
@[simp] theorem load_respStatus (n : Count32) (s : State) : (load n s).respStatus = s.respStatus := rfl
@[simp] theorem load_respValue (n : Count32) (s : State) : (load n s).respValue = s.respValue := rfl
@[simp] theorem load_respCount (n : Count32) (s : State) : (load n s).respCount = s.respCount := rfl
@[simp] theorem load_respIllegal (n : Count32) (s : State) : (load n s).respIllegal = s.respIllegal := rfl
@[simp] theorem load_cbReq (n : Count32) (s : State) : (load n s).cbReq = s.cbReq := rfl
@[simp] theorem load_cbKind (n : Count32) (s : State) : (load n s).cbKind = s.cbKind := rfl
@[simp] theorem load_cbDev (n : Count32) (s : State) : (load n s).cbDev = s.cbDev := rfl
@[simp] theorem load_cbReg (n : Count32) (s : State) : (load n s).cbReg = s.cbReg := rfl
@[simp] theorem load_cbData (n : Count32) (s : State) : (load n s).cbData = s.cbData := rfl
@[simp] theorem load_cbTmoMs (n : Count32) (s : State) : (load n s).cbTmoMs = s.cbTmoMs := rfl
@[simp] theorem load_cmdValid (n : Count32) (s : State) : (load n s).cmdValid = s.cmdValid := rfl
@[simp] theorem load_cmdWord (n : Count32) (s : State) : (load n s).cmdWord = s.cmdWord := rfl
@[simp] theorem load_pbTxpend (n : Count32) (s : State) : (load n s).pbTxpend = s.pbTxpend := rfl
@[simp] theorem load_pbRxq (n : Count32) (s : State) : (load n s).pbRxq = s.pbRxq := rfl
@[simp] theorem load_dataRdy (n : Count32) (s : State) : (load n s).dataRdy = s.dataRdy := rfl
@[simp] theorem load_cbRsp (n : Count32) (s : State) : (load n s).cbRsp = s.cbRsp := rfl
@[simp] theorem load_lockGnt (n : Count32) (s : State) : (load n s).lockGnt = s.lockGnt := rfl
@[simp] theorem load_rst (n : Count32) (s : State) : (load n s).rst = s.rst := rfl
@[simp] theorem load_pixbuf (n : Count32) (s : State) : (load n s).pixbuf = s.pixbuf := rfl
@[simp] theorem load_cbLate (n : Count32) (s : State) : (load n s).cbLate = s.cbLate := rfl
@[simp] theorem load_history (n : Count32) (s : State) : (load n s).history = s.history := rfl
@[simp] theorem load_schedule (n : Count32) (s : State) : (load n s).schedule = s.schedule := rfl

/-! ## `memWrite` -/

@[simp] theorem memWrite_fsm (i : PixIndex) (v : PixWord) (s : State) : (memWrite i v s).fsm = s.fsm := rfl
@[simp] theorem memWrite_cmdOp (i : PixIndex) (v : PixWord) (s : State) : (memWrite i v s).cmdOp = s.cmdOp := rfl
@[simp] theorem memWrite_cmdA (i : PixIndex) (v : PixWord) (s : State) : (memWrite i v s).cmdA = s.cmdA := rfl
@[simp] theorem memWrite_cmdV (i : PixIndex) (v : PixWord) (s : State) : (memWrite i v s).cmdV = s.cmdV := rfl
@[simp] theorem memWrite_cmdE (i : PixIndex) (v : PixWord) (s : State) : (memWrite i v s).cmdE = s.cmdE := rfl
@[simp] theorem memWrite_cbDevaddr (i : PixIndex) (v : PixWord) (s : State) : (memWrite i v s).cbDevaddr = s.cbDevaddr := rfl
@[simp] theorem memWrite_revision (i : PixIndex) (v : PixWord) (s : State) : (memWrite i v s).revision = s.revision := rfl
@[simp] theorem memWrite_pbRxth (i : PixIndex) (v : PixWord) (s : State) : (memWrite i v s).pbRxth = s.pbRxth := rfl
@[simp] theorem memWrite_pbEn (i : PixIndex) (v : PixWord) (s : State) : (memWrite i v s).pbEn = s.pbEn := rfl
@[simp] theorem memWrite_pd (i : PixIndex) (v : PixWord) (s : State) : (memWrite i v s).pd = s.pd := rfl
@[simp] theorem memWrite_clrData (i : PixIndex) (v : PixWord) (s : State) : (memWrite i v s).clrData = s.clrData := rfl
@[simp] theorem memWrite_clrPix (i : PixIndex) (v : PixWord) (s : State) : (memWrite i v s).clrPix = s.clrPix := rfl
@[simp] theorem memWrite_shutter (i : PixIndex) (v : PixWord) (s : State) : (memWrite i v s).shutter = s.shutter := rfl
@[simp] theorem memWrite_read (i : PixIndex) (v : PixWord) (s : State) : (memWrite i v s).read = s.read := rfl
@[simp] theorem memWrite_adcCsN (i : PixIndex) (v : PixWord) (s : State) : (memWrite i v s).adcCsN = s.adcCsN := rfl
@[simp] theorem memWrite_dlyUs (i : PixIndex) (v : PixWord) (s : State) : (memWrite i v s).dlyUs = s.dlyUs := rfl
@[simp] theorem memWrite_dlyPre (i : PixIndex) (v : PixWord) (s : State) : (memWrite i v s).dlyPre = s.dlyPre := rfl
@[simp] theorem memWrite_msb (i : PixIndex) (v : PixWord) (s : State) : (memWrite i v s).msb = s.msb := rfl
@[simp] theorem memWrite_lsb (i : PixIndex) (v : PixWord) (s : State) : (memWrite i v s).lsb = s.lsb := rfl
@[simp] theorem memWrite_discCnt (i : PixIndex) (v : PixWord) (s : State) : (memWrite i v s).discCnt = s.discCnt := rfl
@[simp] theorem memWrite_pixCnt (i : PixIndex) (v : PixWord) (s : State) : (memWrite i v s).pixCnt = s.pixCnt := rfl
@[simp] theorem memWrite_lockReq (i : PixIndex) (v : PixWord) (s : State) : (memWrite i v s).lockReq = s.lockReq := rfl
@[simp] theorem memWrite_resStatus (i : PixIndex) (v : PixWord) (s : State) : (memWrite i v s).resStatus = s.resStatus := rfl
@[simp] theorem memWrite_resValue (i : PixIndex) (v : PixWord) (s : State) : (memWrite i v s).resValue = s.resValue := rfl
@[simp] theorem memWrite_resCount (i : PixIndex) (v : PixWord) (s : State) : (memWrite i v s).resCount = s.resCount := rfl
@[simp] theorem memWrite_resIllegal (i : PixIndex) (v : PixWord) (s : State) : (memWrite i v s).resIllegal = s.resIllegal := rfl
@[simp] theorem memWrite_respValid (i : PixIndex) (v : PixWord) (s : State) : (memWrite i v s).respValid = s.respValid := rfl
@[simp] theorem memWrite_respOp (i : PixIndex) (v : PixWord) (s : State) : (memWrite i v s).respOp = s.respOp := rfl
@[simp] theorem memWrite_respStatus (i : PixIndex) (v : PixWord) (s : State) : (memWrite i v s).respStatus = s.respStatus := rfl
@[simp] theorem memWrite_respValue (i : PixIndex) (v : PixWord) (s : State) : (memWrite i v s).respValue = s.respValue := rfl
@[simp] theorem memWrite_respCount (i : PixIndex) (v : PixWord) (s : State) : (memWrite i v s).respCount = s.respCount := rfl
@[simp] theorem memWrite_respIllegal (i : PixIndex) (v : PixWord) (s : State) : (memWrite i v s).respIllegal = s.respIllegal := rfl
@[simp] theorem memWrite_cbReq (i : PixIndex) (v : PixWord) (s : State) : (memWrite i v s).cbReq = s.cbReq := rfl
@[simp] theorem memWrite_cbKind (i : PixIndex) (v : PixWord) (s : State) : (memWrite i v s).cbKind = s.cbKind := rfl
@[simp] theorem memWrite_cbDev (i : PixIndex) (v : PixWord) (s : State) : (memWrite i v s).cbDev = s.cbDev := rfl
@[simp] theorem memWrite_cbReg (i : PixIndex) (v : PixWord) (s : State) : (memWrite i v s).cbReg = s.cbReg := rfl
@[simp] theorem memWrite_cbData (i : PixIndex) (v : PixWord) (s : State) : (memWrite i v s).cbData = s.cbData := rfl
@[simp] theorem memWrite_cbTmoMs (i : PixIndex) (v : PixWord) (s : State) : (memWrite i v s).cbTmoMs = s.cbTmoMs := rfl
@[simp] theorem memWrite_cmdValid (i : PixIndex) (v : PixWord) (s : State) : (memWrite i v s).cmdValid = s.cmdValid := rfl
@[simp] theorem memWrite_cmdWord (i : PixIndex) (v : PixWord) (s : State) : (memWrite i v s).cmdWord = s.cmdWord := rfl
@[simp] theorem memWrite_pbTxpend (i : PixIndex) (v : PixWord) (s : State) : (memWrite i v s).pbTxpend = s.pbTxpend := rfl
@[simp] theorem memWrite_pbRxq (i : PixIndex) (v : PixWord) (s : State) : (memWrite i v s).pbRxq = s.pbRxq := rfl
@[simp] theorem memWrite_dataRdy (i : PixIndex) (v : PixWord) (s : State) : (memWrite i v s).dataRdy = s.dataRdy := rfl
@[simp] theorem memWrite_cbRsp (i : PixIndex) (v : PixWord) (s : State) : (memWrite i v s).cbRsp = s.cbRsp := rfl
@[simp] theorem memWrite_lockGnt (i : PixIndex) (v : PixWord) (s : State) : (memWrite i v s).lockGnt = s.lockGnt := rfl
@[simp] theorem memWrite_rst (i : PixIndex) (v : PixWord) (s : State) : (memWrite i v s).rst = s.rst := rfl
@[simp] theorem memWrite_pixbuf (i : PixIndex) (v : PixWord) (s : State) : (memWrite i v s).pixbuf = Memory.write s.pixbuf i.toNat v := rfl
@[simp] theorem memWrite_cbLate (i : PixIndex) (v : PixWord) (s : State) : (memWrite i v s).cbLate = s.cbLate := rfl
@[simp] theorem memWrite_history (i : PixIndex) (v : PixWord) (s : State) : (memWrite i v s).history = .pixWrite i v :: s.history := rfl
@[simp] theorem memWrite_schedule (i : PixIndex) (v : PixWord) (s : State) : (memWrite i v s).schedule = s.schedule := rfl

/-! ## `txPush16` -/

@[simp] theorem txPush16_fsm (s : State) : (txPush16 s).fsm = s.fsm := rfl
@[simp] theorem txPush16_cmdOp (s : State) : (txPush16 s).cmdOp = s.cmdOp := rfl
@[simp] theorem txPush16_cmdA (s : State) : (txPush16 s).cmdA = s.cmdA := rfl
@[simp] theorem txPush16_cmdV (s : State) : (txPush16 s).cmdV = s.cmdV := rfl
@[simp] theorem txPush16_cmdE (s : State) : (txPush16 s).cmdE = s.cmdE := rfl
@[simp] theorem txPush16_cbDevaddr (s : State) : (txPush16 s).cbDevaddr = s.cbDevaddr := rfl
@[simp] theorem txPush16_revision (s : State) : (txPush16 s).revision = s.revision := rfl
@[simp] theorem txPush16_pbRxth (s : State) : (txPush16 s).pbRxth = s.pbRxth := rfl
@[simp] theorem txPush16_pbEn (s : State) : (txPush16 s).pbEn = s.pbEn := rfl
@[simp] theorem txPush16_pd (s : State) : (txPush16 s).pd = s.pd := rfl
@[simp] theorem txPush16_clrData (s : State) : (txPush16 s).clrData = s.clrData := rfl
@[simp] theorem txPush16_clrPix (s : State) : (txPush16 s).clrPix = s.clrPix := rfl
@[simp] theorem txPush16_shutter (s : State) : (txPush16 s).shutter = s.shutter := rfl
@[simp] theorem txPush16_read (s : State) : (txPush16 s).read = s.read := rfl
@[simp] theorem txPush16_adcCsN (s : State) : (txPush16 s).adcCsN = s.adcCsN := rfl
@[simp] theorem txPush16_dlyUs (s : State) : (txPush16 s).dlyUs = s.dlyUs := rfl
@[simp] theorem txPush16_dlyPre (s : State) : (txPush16 s).dlyPre = s.dlyPre := rfl
@[simp] theorem txPush16_msb (s : State) : (txPush16 s).msb = s.msb := rfl
@[simp] theorem txPush16_lsb (s : State) : (txPush16 s).lsb = s.lsb := rfl
@[simp] theorem txPush16_discCnt (s : State) : (txPush16 s).discCnt = s.discCnt := rfl
@[simp] theorem txPush16_pixCnt (s : State) : (txPush16 s).pixCnt = s.pixCnt := rfl
@[simp] theorem txPush16_lockReq (s : State) : (txPush16 s).lockReq = s.lockReq := rfl
@[simp] theorem txPush16_resStatus (s : State) : (txPush16 s).resStatus = s.resStatus := rfl
@[simp] theorem txPush16_resValue (s : State) : (txPush16 s).resValue = s.resValue := rfl
@[simp] theorem txPush16_resCount (s : State) : (txPush16 s).resCount = s.resCount := rfl
@[simp] theorem txPush16_resIllegal (s : State) : (txPush16 s).resIllegal = s.resIllegal := rfl
@[simp] theorem txPush16_respValid (s : State) : (txPush16 s).respValid = s.respValid := rfl
@[simp] theorem txPush16_respOp (s : State) : (txPush16 s).respOp = s.respOp := rfl
@[simp] theorem txPush16_respStatus (s : State) : (txPush16 s).respStatus = s.respStatus := rfl
@[simp] theorem txPush16_respValue (s : State) : (txPush16 s).respValue = s.respValue := rfl
@[simp] theorem txPush16_respCount (s : State) : (txPush16 s).respCount = s.respCount := rfl
@[simp] theorem txPush16_respIllegal (s : State) : (txPush16 s).respIllegal = s.respIllegal := rfl
@[simp] theorem txPush16_cbReq (s : State) : (txPush16 s).cbReq = s.cbReq := rfl
@[simp] theorem txPush16_cbKind (s : State) : (txPush16 s).cbKind = s.cbKind := rfl
@[simp] theorem txPush16_cbDev (s : State) : (txPush16 s).cbDev = s.cbDev := rfl
@[simp] theorem txPush16_cbReg (s : State) : (txPush16 s).cbReg = s.cbReg := rfl
@[simp] theorem txPush16_cbData (s : State) : (txPush16 s).cbData = s.cbData := rfl
@[simp] theorem txPush16_cbTmoMs (s : State) : (txPush16 s).cbTmoMs = s.cbTmoMs := rfl
@[simp] theorem txPush16_cmdValid (s : State) : (txPush16 s).cmdValid = s.cmdValid := rfl
@[simp] theorem txPush16_cmdWord (s : State) : (txPush16 s).cmdWord = s.cmdWord := rfl
@[simp] theorem txPush16_pbTxpend (s : State) : (txPush16 s).pbTxpend = s.pbTxpend + 2 := rfl
@[simp] theorem txPush16_pbRxq (s : State) : (txPush16 s).pbRxq = s.pbRxq := rfl
@[simp] theorem txPush16_dataRdy (s : State) : (txPush16 s).dataRdy = s.dataRdy := rfl
@[simp] theorem txPush16_cbRsp (s : State) : (txPush16 s).cbRsp = s.cbRsp := rfl
@[simp] theorem txPush16_lockGnt (s : State) : (txPush16 s).lockGnt = s.lockGnt := rfl
@[simp] theorem txPush16_rst (s : State) : (txPush16 s).rst = s.rst := rfl
@[simp] theorem txPush16_pixbuf (s : State) : (txPush16 s).pixbuf = s.pixbuf := rfl
@[simp] theorem txPush16_cbLate (s : State) : (txPush16 s).cbLate = s.cbLate := rfl
@[simp] theorem txPush16_history (s : State) : (txPush16 s).history = s.history := rfl
@[simp] theorem txPush16_schedule (s : State) : (txPush16 s).schedule = s.schedule := rfl

/-! ## `cbPost` -/

@[simp] theorem cbPost_fsm (k : CbKind) (d r b : Byte) (t : Count32) (s : State) : (cbPost k d r b t s).fsm = s.fsm := rfl
@[simp] theorem cbPost_cmdOp (k : CbKind) (d r b : Byte) (t : Count32) (s : State) : (cbPost k d r b t s).cmdOp = s.cmdOp := rfl
@[simp] theorem cbPost_cmdA (k : CbKind) (d r b : Byte) (t : Count32) (s : State) : (cbPost k d r b t s).cmdA = s.cmdA := rfl
@[simp] theorem cbPost_cmdV (k : CbKind) (d r b : Byte) (t : Count32) (s : State) : (cbPost k d r b t s).cmdV = s.cmdV := rfl
@[simp] theorem cbPost_cmdE (k : CbKind) (d r b : Byte) (t : Count32) (s : State) : (cbPost k d r b t s).cmdE = s.cmdE := rfl
@[simp] theorem cbPost_cbDevaddr (k : CbKind) (d r b : Byte) (t : Count32) (s : State) : (cbPost k d r b t s).cbDevaddr = s.cbDevaddr := rfl
@[simp] theorem cbPost_revision (k : CbKind) (d r b : Byte) (t : Count32) (s : State) : (cbPost k d r b t s).revision = s.revision := rfl
@[simp] theorem cbPost_pbRxth (k : CbKind) (d r b : Byte) (t : Count32) (s : State) : (cbPost k d r b t s).pbRxth = s.pbRxth := rfl
@[simp] theorem cbPost_pbEn (k : CbKind) (d r b : Byte) (t : Count32) (s : State) : (cbPost k d r b t s).pbEn = s.pbEn := rfl
@[simp] theorem cbPost_pd (k : CbKind) (d r b : Byte) (t : Count32) (s : State) : (cbPost k d r b t s).pd = s.pd := rfl
@[simp] theorem cbPost_clrData (k : CbKind) (d r b : Byte) (t : Count32) (s : State) : (cbPost k d r b t s).clrData = s.clrData := rfl
@[simp] theorem cbPost_clrPix (k : CbKind) (d r b : Byte) (t : Count32) (s : State) : (cbPost k d r b t s).clrPix = s.clrPix := rfl
@[simp] theorem cbPost_shutter (k : CbKind) (d r b : Byte) (t : Count32) (s : State) : (cbPost k d r b t s).shutter = s.shutter := rfl
@[simp] theorem cbPost_read (k : CbKind) (d r b : Byte) (t : Count32) (s : State) : (cbPost k d r b t s).read = s.read := rfl
@[simp] theorem cbPost_adcCsN (k : CbKind) (d r b : Byte) (t : Count32) (s : State) : (cbPost k d r b t s).adcCsN = s.adcCsN := rfl
@[simp] theorem cbPost_dlyUs (k : CbKind) (d r b : Byte) (t : Count32) (s : State) : (cbPost k d r b t s).dlyUs = s.dlyUs := rfl
@[simp] theorem cbPost_dlyPre (k : CbKind) (d r b : Byte) (t : Count32) (s : State) : (cbPost k d r b t s).dlyPre = s.dlyPre := rfl
@[simp] theorem cbPost_msb (k : CbKind) (d r b : Byte) (t : Count32) (s : State) : (cbPost k d r b t s).msb = s.msb := rfl
@[simp] theorem cbPost_lsb (k : CbKind) (d r b : Byte) (t : Count32) (s : State) : (cbPost k d r b t s).lsb = s.lsb := rfl
@[simp] theorem cbPost_discCnt (k : CbKind) (d r b : Byte) (t : Count32) (s : State) : (cbPost k d r b t s).discCnt = s.discCnt := rfl
@[simp] theorem cbPost_pixCnt (k : CbKind) (d r b : Byte) (t : Count32) (s : State) : (cbPost k d r b t s).pixCnt = s.pixCnt := rfl
@[simp] theorem cbPost_lockReq (k : CbKind) (d r b : Byte) (t : Count32) (s : State) : (cbPost k d r b t s).lockReq = s.lockReq := rfl
@[simp] theorem cbPost_resStatus (k : CbKind) (d r b : Byte) (t : Count32) (s : State) : (cbPost k d r b t s).resStatus = s.resStatus := rfl
@[simp] theorem cbPost_resValue (k : CbKind) (d r b : Byte) (t : Count32) (s : State) : (cbPost k d r b t s).resValue = s.resValue := rfl
@[simp] theorem cbPost_resCount (k : CbKind) (d r b : Byte) (t : Count32) (s : State) : (cbPost k d r b t s).resCount = s.resCount := rfl
@[simp] theorem cbPost_resIllegal (k : CbKind) (d r b : Byte) (t : Count32) (s : State) : (cbPost k d r b t s).resIllegal = s.resIllegal := rfl
@[simp] theorem cbPost_respValid (k : CbKind) (d r b : Byte) (t : Count32) (s : State) : (cbPost k d r b t s).respValid = s.respValid := rfl
@[simp] theorem cbPost_respOp (k : CbKind) (d r b : Byte) (t : Count32) (s : State) : (cbPost k d r b t s).respOp = s.respOp := rfl
@[simp] theorem cbPost_respStatus (k : CbKind) (d r b : Byte) (t : Count32) (s : State) : (cbPost k d r b t s).respStatus = s.respStatus := rfl
@[simp] theorem cbPost_respValue (k : CbKind) (d r b : Byte) (t : Count32) (s : State) : (cbPost k d r b t s).respValue = s.respValue := rfl
@[simp] theorem cbPost_respCount (k : CbKind) (d r b : Byte) (t : Count32) (s : State) : (cbPost k d r b t s).respCount = s.respCount := rfl
@[simp] theorem cbPost_respIllegal (k : CbKind) (d r b : Byte) (t : Count32) (s : State) : (cbPost k d r b t s).respIllegal = s.respIllegal := rfl
@[simp] theorem cbPost_cbReq (k : CbKind) (d r b : Byte) (t : Count32) (s : State) : (cbPost k d r b t s).cbReq = true := rfl
@[simp] theorem cbPost_cbKind (k : CbKind) (d r b : Byte) (t : Count32) (s : State) : (cbPost k d r b t s).cbKind = k := rfl
@[simp] theorem cbPost_cbDev (k : CbKind) (d r b : Byte) (t : Count32) (s : State) : (cbPost k d r b t s).cbDev = d := rfl
@[simp] theorem cbPost_cbReg (k : CbKind) (d r b : Byte) (t : Count32) (s : State) : (cbPost k d r b t s).cbReg = r := rfl
@[simp] theorem cbPost_cbData (k : CbKind) (d r b : Byte) (t : Count32) (s : State) : (cbPost k d r b t s).cbData = b := rfl
@[simp] theorem cbPost_cbTmoMs (k : CbKind) (d r b : Byte) (t : Count32) (s : State) : (cbPost k d r b t s).cbTmoMs = t := rfl
@[simp] theorem cbPost_cmdValid (k : CbKind) (d r b : Byte) (t : Count32) (s : State) : (cbPost k d r b t s).cmdValid = s.cmdValid := rfl
@[simp] theorem cbPost_cmdWord (k : CbKind) (d r b : Byte) (t : Count32) (s : State) : (cbPost k d r b t s).cmdWord = s.cmdWord := rfl
@[simp] theorem cbPost_pbTxpend (k : CbKind) (d r b : Byte) (t : Count32) (s : State) : (cbPost k d r b t s).pbTxpend = s.pbTxpend := rfl
@[simp] theorem cbPost_pbRxq (k : CbKind) (d r b : Byte) (t : Count32) (s : State) : (cbPost k d r b t s).pbRxq = s.pbRxq := rfl
@[simp] theorem cbPost_dataRdy (k : CbKind) (d r b : Byte) (t : Count32) (s : State) : (cbPost k d r b t s).dataRdy = s.dataRdy := rfl
@[simp] theorem cbPost_cbRsp (k : CbKind) (d r b : Byte) (t : Count32) (s : State) : (cbPost k d r b t s).cbRsp = s.cbRsp := rfl
@[simp] theorem cbPost_lockGnt (k : CbKind) (d r b : Byte) (t : Count32) (s : State) : (cbPost k d r b t s).lockGnt = s.lockGnt := rfl
@[simp] theorem cbPost_rst (k : CbKind) (d r b : Byte) (t : Count32) (s : State) : (cbPost k d r b t s).rst = s.rst := rfl
@[simp] theorem cbPost_pixbuf (k : CbKind) (d r b : Byte) (t : Count32) (s : State) : (cbPost k d r b t s).pixbuf = s.pixbuf := rfl
@[simp] theorem cbPost_cbLate (k : CbKind) (d r b : Byte) (t : Count32) (s : State) : (cbPost k d r b t s).cbLate = s.cbLate := rfl
@[simp] theorem cbPost_history (k : CbKind) (d r b : Byte) (t : Count32) (s : State) : (cbPost k d r b t s).history = s.history := rfl
@[simp] theorem cbPost_schedule (k : CbKind) (d r b : Byte) (t : Count32) (s : State) : (cbPost k d r b t s).schedule = s.schedule := rfl

/-! ## `present` -/

@[simp] theorem present_fsm (s : State) : (present s).fsm = .idle := rfl
@[simp] theorem present_cmdOp (s : State) : (present s).cmdOp = s.cmdOp := rfl
@[simp] theorem present_cmdA (s : State) : (present s).cmdA = s.cmdA := rfl
@[simp] theorem present_cmdV (s : State) : (present s).cmdV = s.cmdV := rfl
@[simp] theorem present_cmdE (s : State) : (present s).cmdE = s.cmdE := rfl
@[simp] theorem present_cbDevaddr (s : State) : (present s).cbDevaddr = s.cbDevaddr := rfl
@[simp] theorem present_revision (s : State) : (present s).revision = s.revision := rfl
@[simp] theorem present_pbRxth (s : State) : (present s).pbRxth = s.pbRxth := rfl
@[simp] theorem present_pbEn (s : State) : (present s).pbEn = s.pbEn := rfl
@[simp] theorem present_pd (s : State) : (present s).pd = s.pd := rfl
@[simp] theorem present_clrData (s : State) : (present s).clrData = s.clrData := rfl
@[simp] theorem present_clrPix (s : State) : (present s).clrPix = s.clrPix := rfl
@[simp] theorem present_shutter (s : State) : (present s).shutter = s.shutter := rfl
@[simp] theorem present_read (s : State) : (present s).read = s.read := rfl
@[simp] theorem present_adcCsN (s : State) : (present s).adcCsN = s.adcCsN := rfl
@[simp] theorem present_dlyUs (s : State) : (present s).dlyUs = s.dlyUs := rfl
@[simp] theorem present_dlyPre (s : State) : (present s).dlyPre = s.dlyPre := rfl
@[simp] theorem present_msb (s : State) : (present s).msb = s.msb := rfl
@[simp] theorem present_lsb (s : State) : (present s).lsb = s.lsb := rfl
@[simp] theorem present_discCnt (s : State) : (present s).discCnt = s.discCnt := rfl
@[simp] theorem present_pixCnt (s : State) : (present s).pixCnt = s.pixCnt := rfl
@[simp] theorem present_lockReq (s : State) : (present s).lockReq = s.lockReq := rfl
@[simp] theorem present_resStatus (s : State) : (present s).resStatus = s.resStatus := rfl
@[simp] theorem present_resValue (s : State) : (present s).resValue = s.resValue := rfl
@[simp] theorem present_resCount (s : State) : (present s).resCount = s.resCount := rfl
@[simp] theorem present_resIllegal (s : State) : (present s).resIllegal = s.resIllegal := rfl
@[simp] theorem present_respValid (s : State) : (present s).respValid = true := rfl
@[simp] theorem present_respOp (s : State) : (present s).respOp = s.cmdOp := rfl
@[simp] theorem present_respStatus (s : State) : (present s).respStatus = s.resStatus := rfl
@[simp] theorem present_respValue (s : State) : (present s).respValue = s.resValue := rfl
@[simp] theorem present_respCount (s : State) : (present s).respCount = s.resCount := rfl
@[simp] theorem present_respIllegal (s : State) : (present s).respIllegal = s.resIllegal := rfl
@[simp] theorem present_cbReq (s : State) : (present s).cbReq = s.cbReq := rfl
@[simp] theorem present_cbKind (s : State) : (present s).cbKind = s.cbKind := rfl
@[simp] theorem present_cbDev (s : State) : (present s).cbDev = s.cbDev := rfl
@[simp] theorem present_cbReg (s : State) : (present s).cbReg = s.cbReg := rfl
@[simp] theorem present_cbData (s : State) : (present s).cbData = s.cbData := rfl
@[simp] theorem present_cbTmoMs (s : State) : (present s).cbTmoMs = s.cbTmoMs := rfl
@[simp] theorem present_cmdValid (s : State) : (present s).cmdValid = s.cmdValid := rfl
@[simp] theorem present_cmdWord (s : State) : (present s).cmdWord = s.cmdWord := rfl
@[simp] theorem present_pbTxpend (s : State) : (present s).pbTxpend = s.pbTxpend := rfl
@[simp] theorem present_pbRxq (s : State) : (present s).pbRxq = s.pbRxq := rfl
@[simp] theorem present_dataRdy (s : State) : (present s).dataRdy = s.dataRdy := rfl
@[simp] theorem present_cbRsp (s : State) : (present s).cbRsp = s.cbRsp := rfl
@[simp] theorem present_lockGnt (s : State) : (present s).lockGnt = s.lockGnt := rfl
@[simp] theorem present_rst (s : State) : (present s).rst = s.rst := rfl
@[simp] theorem present_pixbuf (s : State) : (present s).pixbuf = s.pixbuf := rfl
@[simp] theorem present_cbLate (s : State) : (present s).cbLate = s.cbLate := rfl
@[simp] theorem present_history (s : State) : (present s).history = .response s.cmdOp s.resStatus s.resValue s.resCount s.resIllegal :: s.history := rfl
@[simp] theorem present_schedule (s : State) : (present s).schedule = s.schedule := rfl

/-! ## `resetCore` -/

@[simp] theorem resetCore_fsm (s : State) : (resetCore s).fsm = State.reset.fsm := rfl
@[simp] theorem resetCore_cmdOp (s : State) : (resetCore s).cmdOp = State.reset.cmdOp := rfl
@[simp] theorem resetCore_cmdA (s : State) : (resetCore s).cmdA = State.reset.cmdA := rfl
@[simp] theorem resetCore_cmdV (s : State) : (resetCore s).cmdV = State.reset.cmdV := rfl
@[simp] theorem resetCore_cmdE (s : State) : (resetCore s).cmdE = State.reset.cmdE := rfl
@[simp] theorem resetCore_cbDevaddr (s : State) : (resetCore s).cbDevaddr = State.reset.cbDevaddr := rfl
@[simp] theorem resetCore_revision (s : State) : (resetCore s).revision = State.reset.revision := rfl
@[simp] theorem resetCore_pbRxth (s : State) : (resetCore s).pbRxth = State.reset.pbRxth := rfl
@[simp] theorem resetCore_pbEn (s : State) : (resetCore s).pbEn = State.reset.pbEn := rfl
@[simp] theorem resetCore_pd (s : State) : (resetCore s).pd = State.reset.pd := rfl
@[simp] theorem resetCore_clrData (s : State) : (resetCore s).clrData = State.reset.clrData := rfl
@[simp] theorem resetCore_clrPix (s : State) : (resetCore s).clrPix = State.reset.clrPix := rfl
@[simp] theorem resetCore_shutter (s : State) : (resetCore s).shutter = State.reset.shutter := rfl
@[simp] theorem resetCore_read (s : State) : (resetCore s).read = State.reset.read := rfl
@[simp] theorem resetCore_adcCsN (s : State) : (resetCore s).adcCsN = State.reset.adcCsN := rfl
@[simp] theorem resetCore_dlyUs (s : State) : (resetCore s).dlyUs = State.reset.dlyUs := rfl
@[simp] theorem resetCore_dlyPre (s : State) : (resetCore s).dlyPre = State.reset.dlyPre := rfl
@[simp] theorem resetCore_msb (s : State) : (resetCore s).msb = State.reset.msb := rfl
@[simp] theorem resetCore_lsb (s : State) : (resetCore s).lsb = State.reset.lsb := rfl
@[simp] theorem resetCore_discCnt (s : State) : (resetCore s).discCnt = State.reset.discCnt := rfl
@[simp] theorem resetCore_pixCnt (s : State) : (resetCore s).pixCnt = State.reset.pixCnt := rfl
@[simp] theorem resetCore_lockReq (s : State) : (resetCore s).lockReq = State.reset.lockReq := rfl
@[simp] theorem resetCore_resStatus (s : State) : (resetCore s).resStatus = State.reset.resStatus := rfl
@[simp] theorem resetCore_resValue (s : State) : (resetCore s).resValue = State.reset.resValue := rfl
@[simp] theorem resetCore_resCount (s : State) : (resetCore s).resCount = State.reset.resCount := rfl
@[simp] theorem resetCore_resIllegal (s : State) : (resetCore s).resIllegal = State.reset.resIllegal := rfl
@[simp] theorem resetCore_respValid (s : State) : (resetCore s).respValid = State.reset.respValid := rfl
@[simp] theorem resetCore_respOp (s : State) : (resetCore s).respOp = State.reset.respOp := rfl
@[simp] theorem resetCore_respStatus (s : State) : (resetCore s).respStatus = State.reset.respStatus := rfl
@[simp] theorem resetCore_respValue (s : State) : (resetCore s).respValue = State.reset.respValue := rfl
@[simp] theorem resetCore_respCount (s : State) : (resetCore s).respCount = State.reset.respCount := rfl
@[simp] theorem resetCore_respIllegal (s : State) : (resetCore s).respIllegal = State.reset.respIllegal := rfl
@[simp] theorem resetCore_cbReq (s : State) : (resetCore s).cbReq = State.reset.cbReq := rfl
@[simp] theorem resetCore_cbKind (s : State) : (resetCore s).cbKind = State.reset.cbKind := rfl
@[simp] theorem resetCore_cbDev (s : State) : (resetCore s).cbDev = State.reset.cbDev := rfl
@[simp] theorem resetCore_cbReg (s : State) : (resetCore s).cbReg = State.reset.cbReg := rfl
@[simp] theorem resetCore_cbData (s : State) : (resetCore s).cbData = State.reset.cbData := rfl
@[simp] theorem resetCore_cbTmoMs (s : State) : (resetCore s).cbTmoMs = State.reset.cbTmoMs := rfl
@[simp] theorem resetCore_cmdValid (s : State) : (resetCore s).cmdValid = s.cmdValid := rfl
@[simp] theorem resetCore_cmdWord (s : State) : (resetCore s).cmdWord = s.cmdWord := rfl
@[simp] theorem resetCore_pbTxpend (s : State) : (resetCore s).pbTxpend = s.pbTxpend := rfl
@[simp] theorem resetCore_pbRxq (s : State) : (resetCore s).pbRxq = s.pbRxq := rfl
@[simp] theorem resetCore_dataRdy (s : State) : (resetCore s).dataRdy = s.dataRdy := rfl
@[simp] theorem resetCore_cbRsp (s : State) : (resetCore s).cbRsp = s.cbRsp := rfl
@[simp] theorem resetCore_lockGnt (s : State) : (resetCore s).lockGnt = s.lockGnt := rfl
@[simp] theorem resetCore_rst (s : State) : (resetCore s).rst = s.rst := rfl
@[simp] theorem resetCore_pixbuf (s : State) : (resetCore s).pixbuf = s.pixbuf := rfl
@[simp] theorem resetCore_cbLate (s : State) : (resetCore s).cbLate = (s.cbLate || s.cbReq) := rfl
@[simp] theorem resetCore_history (s : State) : (resetCore s).history = s.history := rfl
@[simp] theorem resetCore_schedule (s : State) : (resetCore s).schedule = s.schedule := rfl

end Sys2Proof.Machine
end

