-- ==== Sys2Proof/Laws/Ops.lean ====
section
/-! SUPPORT. One lemma per shared operation that says once everything it can do. -/

namespace Sys2Proof.Machine

/-- `Wait(S)` leaves, starts the next microsecond, or counts one clock cycle (R103). -/
theorem wait_cases (n : Fsm) (s : State) :
    (s.dlyUs = 0 ∧ wait n s = goto n s) ∨
    (s.dlyUs ≠ 0 ∧ s.dlyPre = 0 ∧
      wait n s = hold { s with dlyUs := s.dlyUs - 1, dlyPre := Config.cycPerUs - 1 }) ∨
    (s.dlyUs ≠ 0 ∧ s.dlyPre ≠ 0 ∧ wait n s = hold { s with dlyPre := s.dlyPre - 1 }) := by
  unfold wait
  split
  · exact .inl ⟨‹_›, rfl⟩
  · split
    · exact .inr (.inl ⟨‹_›, ‹_›, rfl⟩)
    · exact .inr (.inr ⟨‹_›, ‹_›, rfl⟩)

/-- `RxPop()` on an empty queue is not defined (R42). -/
theorem rxPop_nil {s : State} (h : s.pbRxq = []) : rxPop s = none := by simp [rxPop, h]

/-- `RxPop()` gives the head byte and removes it (R42). -/
theorem rxPop_cons {s : State} {b : Byte} {rest : List Byte} (h : s.pbRxq = b :: rest) :
    rxPop s = some (b, { s with pbRxq := rest }) := by simp [rxPop, h]

/-- `CbTake()` without an answer is not defined (R46). -/
theorem cbTake_none {s : State} (h : s.cbRsp = none) : cbTake s = none := by simp [cbTake, h]

/-- `CbTake()` gives the answer and removes it (R46). -/
theorem cbTake_some {s : State} {status rdata : Byte} (h : s.cbRsp = some (status, rdata)) :
    cbTake s = some (status, rdata, { s with cbRsp := none }) := by simp [cbTake, h]

/-- IDLE accepts a posted word (R99). -/
theorem accept_posted {s : State} (op : Opcode) (a v : Byte) (e : Count32) (h : s.cmdValid = true) :
    accept op a v e s =
      { s with
        fsm := dispatch op
        cmdOp := op, cmdA := a, cmdV := v, cmdE := e
        cmdValid := false
        resCount := 0
        resStatus := acceptStatus op
        resIllegal := acceptIllegal op
        resValue := acceptValue op s.revision
        respValid := false } := by
  simp [accept, h, goto]

/-- IDLE holds without one (R98). -/
theorem accept_none {s : State} (op : Opcode) (a v : Byte) (e : Count32) (h : s.cmdValid = false) :
    accept op a v e s = hold s := by simp [accept, h]

/-- CB_WAIT holds without an answer (R119). -/
theorem cbWait_none {s : State} (record : Byte → Byte → State → State) (h : s.cbRsp = none) :
    cbWait record s = hold s := by simp [cbWait, cbTake, h]

/-- CB_WAIT takes the answer and goes to PWR_DOWN whatever the status is (R119, R122). -/
theorem cbWait_some {s : State} (record : Byte → Byte → State → State) {status rdata : Byte}
    (h : s.cbRsp = some (status, rdata)) :
    cbWait record s = goto .pwrDown (record status rdata { s with cbRsp := none }) := by
  simp [cbWait, cbTake, h]

/-- PX_COMMIT discards while fewer than `N_DISCARD` pairs are discarded (R150). -/
theorem pxCommit_discard {s : State} (h : s.discCnt.toNat < 4) :
    pxCommit s = goto .pxCsLo { s with discCnt := s.discCnt + 1 } := by
  simp [pxCommit, Config.nDiscard, h]

/-- PX_COMMIT stores otherwise (R150). -/
theorem pxCommit_store {s : State} (h : ¬ s.discCnt.toNat < 4) :
    pxCommit s =
      goto (if s.pixCnt.toNat = 1023 then .rdUnlock else .pxCsLo)
        { memWrite (pixIndex s.pixCnt) (sample16 s.msb s.lsb) s with pixCnt := s.pixCnt + 1 } := by
  unfold pxCommit
  rw [if_neg (by simpa [Config.nDiscard] using h)]
  rfl

/-- PX_WAIT_MSB holds on an empty queue, else pops into MSB (R146). -/
theorem pxWaitMsb_cases (s : State) :
    (s.pbRxq = [] ∧ pxWaitMsb s = hold s) ∨
    (∃ b rest, s.pbRxq = b :: rest ∧ pxWaitMsb s = goto .pxStrobeLo { s with pbRxq := rest, msb := b }) := by
  cases h : s.pbRxq with
  | nil => exact .inl ⟨rfl, by simp [pxWaitMsb, rxPop, h]⟩
  | cons b rest => exact .inr ⟨b, rest, rfl, by simp [pxWaitMsb, rxPop, h]⟩

/-- PX_WAIT_LSB holds on an empty queue, else pops into LSB (R148). -/
theorem pxWaitLsb_cases (s : State) :
    (s.pbRxq = [] ∧ pxWaitLsb s = hold s) ∨
    (∃ b rest, s.pbRxq = b :: rest ∧ pxWaitLsb s = goto .pxCsHi { s with pbRxq := rest, lsb := b }) := by
  cases h : s.pbRxq with
  | nil => exact .inl ⟨rfl, by simp [pxWaitLsb, rxPop, h]⟩
  | cons b rest => exact .inr ⟨b, rest, rfl, by simp [pxWaitLsb, rxPop, h]⟩

end Sys2Proof.Machine
end

