-- ==== Sys2Proof/Laws/Exec.lean ====
section
/-! SUPPORT. What a core step and a step can be: `exec` away from the states a command decides, `coreStep` and `step` by
whose turn it is, and what each environment turn changes. -/

namespace Sys2Proof.Machine

/-- Away from IDLE, PU_WAIT, CB_ISSUE and CB_WAIT every command takes the same step (R96 (b)). -/
theorem exec_eq_stateRule (i : Instr) {s : State} (h1 : s.fsm ≠ .idle) (h2 : s.fsm ≠ .puWait)
    (h3 : s.fsm ≠ .cbIssue) (h4 : s.fsm ≠ .cbWait) : exec i s = stateRule s := by
  cases i <;> simp only [exec, execInit, execCapture, execGetrev, execRdreg, execWrreg, execReset,
    execIllegalZero, execIllegalSeven, execIllegalHigh]

/-- In IDLE a command other than an unconfigured CAPTURE is accepted by `accept` (R99). -/
theorem exec_idle (i : Instr) {s : State} (h : s.fsm = .idle)
    (hc : i.op = 0x2#4 → s.cmdValid = true → s.pbEn = true ∧ s.pbRxth = true) :
    exec i s = .next (accept i.op i.a i.v i.e s) := by
  cases i with
  | capture a v e =>
    simp only [exec, execCapture, h]
    split
    · simp_all [Instr.op]
    · rfl
  | _ => simp [exec, execInit, execGetrev, execRdreg, execWrreg, execReset, execIllegalZero,
      execIllegalSeven, execIllegalHigh, h, Instr.op, Instr.a, Instr.v, Instr.e]

/-- A core step under reset (R96 (a)). -/
theorem coreStep_rst {s : State} (h : s.rst = true) : coreStep s = .next (resetCore s) := by
  simp [coreStep, h]

/-- A core step in IDLE without a posted word is a hold (R98). -/
theorem coreStep_idle_empty {s : State} (h : s.rst = false) (hf : s.fsm = .idle) (hv : s.cmdValid = false) :
    coreStep s = .next (hold s) := by
  simp [coreStep, currentCommand, h, hf, hv]

/-- A core step in IDLE with a posted word is its command's (R99). -/
theorem coreStep_idle_posted {s : State} (h : s.rst = false) (hf : s.fsm = .idle) (hv : s.cmdValid = true) :
    coreStep s = exec (decode s.cmdWord) s := by
  simp [coreStep, currentCommand, h, hf, hv]

/-- A core step inside a command is that command's. -/
theorem coreStep_busy {s : State} (h : s.rst = false) (hf : s.fsm ≠ .idle) :
    coreStep s = exec (commandOf s.cmdOp s.cmdA s.cmdV s.cmdE) s := by
  simp only [coreStep, h, currentCommand]
  split <;> simp_all

/-- CORE moves when the schedule is empty. -/
theorem step_empty {s : State} (h : s.schedule = []) : step s = coreStep s := by simp [step, h]

/-- CORE moves on its turn. -/
theorem step_core {s : State} {rest : List Turn} (h : s.schedule = .core :: rest) :
    step s = coreStep { s with schedule := rest } := by simp [step, h]

/-- An agent moves on its turn. -/
theorem step_env {s : State} {e : EnvStep} {rest : List Turn} (h : s.schedule = .env e :: rest) :
    step s = envStep e { s with schedule := rest } := by simp [step, h]

/-- Everything an environment turn can do when it answers a next state (R51): which cells change, and how. -/
theorem envStep_cases {e : EnvStep} {s t : State} (h : envStep e s = .next t) :
    (∃ w, e = .hostPost w ∧ s.cmdValid = false ∧ t = { s with cmdWord := w, cmdValid := true }) ∨
    ((∃ i, e = .hostReadPix i) ∧ t = s) ∨
    (e = .hostReadRegs ∧ t = s) ∨
    (∃ l, e = .hostRst l ∧ t = { s with rst := l }) ∨
    (∃ l, e = .sensor l ∧ t = { s with dataRdy := l }) ∨
    (∃ b, e = .pixbus b ∧ s.pbEn = true ∧ s.pbRxth = true ∧ 0 < s.pbTxpend ∧
      t = { s with pbTxpend := s.pbTxpend - 1, pbRxq := s.pbRxq ++ [b] }) ∨
    (∃ x y, e = .cbus x y ∧ s.cbReq = true ∧ s.cbRsp = none ∧
      t = { s with cbReq := false, cbRsp := some (x, y) }) ∨
    (∃ x y, e = .cbusLate x y ∧ s.cbLate = true ∧ s.cbRsp = none ∧
      t = { s with cbLate := false, cbRsp := some (x, y) }) ∨
    (e = .grant ∧ s.lockReq = true ∧ s.lockGnt = false ∧ t = { s with lockGnt := true }) ∨
    (e = .release ∧ s.lockReq = false ∧ s.lockGnt = true ∧ t = { s with lockGnt := false }) := by
  cases e <;>
    simp only [envStep, hostPost, hostReadPix, hostReadRegs, hostRst, sensorDrive, pixbusByte, cbusAnswer,
      cbusLateAnswer, arbiterGrant, arbiterRelease] at h <;>
    (try split at h) <;> cases h <;> simp_all

end Sys2Proof.Machine
end

