-- ==== Sys2Proof/Laws/CoreStep.lean ====
section
/-! SUPPORT. Everything a core step taken out of reset can do, once: proofs about all core steps go by cases on
`CoreMove` and unfold no rule that they do not speak of. -/

namespace Sys2Proof.Machine

open Sys2Proof.Safety

/-- The moves of a core step out of reset, one constructor per rule of 40_sequencer.md, 41_control_commands.md and
42_capture.md. -/
inductive CoreMove (s t : State) : Prop
  /-- IDLE without a posted word (R98) -/
  | idle (h : s.fsm = .idle) (posted : s.cmdValid = false) (e : t = hold s)
  /-- IDLE accepts (R99) -/
  | accepted (h : s.fsm = .idle) (posted : s.cmdValid = true)
      (configured : opOf s.cmdWord = 0x2#4 → s.pbEn = true ∧ s.pbRxth = true)
      (e : t = accept (opOf s.cmdWord) (aOf s.cmdWord) (vOf s.cmdWord) (eOf s.cmdWord) s)
  /-- a wait state leaves (R103) -/
  | left (next : Fsm) (h : waitSuccessor s.cmdOp s.fsm = some next) (e : t = goto next s)
  /-- a wait state counts (R103) -/
  | counted (us : Count32) (pre : Nat) (h : s.fsm = .puWait ∨ waitSuccessor s.cmdOp s.fsm ≠ none)
      (le : pre < s.dlyPre ∨ pre = Config.cycPerUs - 1) (e : t = hold { s with dlyUs := us, dlyPre := pre })
  /-- a polling state inside a command holds (R98) -/
  | held (h : s.fsm ≠ .idle) (poll : holding s) (e : t = hold s)
  /-- INIT_BIND (R116) -/
  | initBind (h : s.fsm = .initBind) (e : t = initBind s)
  /-- INIT_CFG (R117) -/
  | initCfg (h : s.fsm = .initCfg) (e : t = initCfg s)
  /-- PU_DRIVE (R105) -/
  | puDrive (h : s.fsm = .puDrive) (e : t = puDrive s)
  /-- CB_ISSUE (R118) -/
  | issued (kind : CbKind) (dev reg data : Byte) (tmo : Count32) (h : s.fsm = .cbIssue)
      (e : t = cbIssue kind dev reg data tmo s)
  /-- CB_WAIT takes INIT's answer (R119) -/
  | answeredInit (status rdata : Byte) (h : s.fsm = .cbWait) (op : s.cmdOp = 0x1#4)
      (rsp : s.cbRsp = some (status, rdata)) (e : t = goto .pwrDown (recordInit status rdata { s with cbRsp := none }))
  /-- CB_WAIT takes another command's answer (R119): REVISION stays -/
  | answered (status rdata st val : Byte) (h : s.fsm = .cbWait) (rsp : s.cbRsp = some (status, rdata))
      (op : s.cmdOp ≠ 0x1#4) (value : s.cmdOp = 0x4#4 ∧ val = rdata ∨ s.cmdOp ≠ 0x4#4 ∧ val = s.resValue)
      (e : t = goto .pwrDown { s with cbRsp := none, resStatus := st, resValue := val })
  /-- EXP_OPEN (R131) -/
  | expOpen (h : s.fsm = .expOpen) (e : t = expOpen s)
  /-- EXP_CLOSE (R133) -/
  | expClose (h : s.fsm = .expClose) (e : t = expClose s)
  /-- EXP_WAIT_DRDY goes on (R134) -/
  | ready (h : s.fsm = .expWaitDrdy) (rdy : s.dataRdy = true) (e : t = goto .rdStrobeHi s)
  /-- RD_STROBE_HI (R137) -/
  | rdStrobeHi (h : s.fsm = .rdStrobeHi) (e : t = rdStrobeHi s)
  /-- RD_STROBE_LO (R139) -/
  | rdStrobeLo (h : s.fsm = .rdStrobeLo) (e : t = rdStrobeLo s)
  /-- RD_LOCK (R141) -/
  | rdLock (h : s.fsm = .rdLock) (e : t = rdLock s)
  /-- RD_LOCK_WAIT goes on (R142) -/
  | granted (h : s.fsm = .rdLockWait) (grant : s.lockGnt = true) (e : t = goto .pxCsLo s)
  /-- PX_CS_LO (R143) -/
  | pxCsLo (h : s.fsm = .pxCsLo) (e : t = pxCsLo s)
  /-- PX_XFER_START (R144) -/
  | pxXferStart (h : s.fsm = .pxXferStart) (e : t = pxXferStart s)
  /-- PX_STROBE_HI (R145) -/
  | pxStrobeHi (h : s.fsm = .pxStrobeHi) (e : t = pxStrobeHi s)
  /-- PX_WAIT_MSB pops (R146) -/
  | popMsb (b : Byte) (rest : List Byte) (h : s.fsm = .pxWaitMsb) (q : s.pbRxq = b :: rest)
      (e : t = goto .pxStrobeLo { s with pbRxq := rest, msb := b })
  /-- PX_STROBE_LO (R147) -/
  | pxStrobeLo (h : s.fsm = .pxStrobeLo) (e : t = pxStrobeLo s)
  /-- PX_WAIT_LSB pops (R148) -/
  | popLsb (b : Byte) (rest : List Byte) (h : s.fsm = .pxWaitLsb) (q : s.pbRxq = b :: rest)
      (e : t = goto .pxCsHi { s with pbRxq := rest, lsb := b })
  /-- PX_CS_HI (R149) -/
  | pxCsHi (h : s.fsm = .pxCsHi) (e : t = pxCsHi s)
  /-- PX_COMMIT discards (R150) -/
  | discarded (h : s.fsm = .pxCommit) (few : s.discCnt.toNat < 4)
      (e : t = goto .pxCsLo { s with discCnt := s.discCnt + 1 })
  /-- PX_COMMIT stores (R150) -/
  | stored (h : s.fsm = .pxCommit) (all : ¬ s.discCnt.toNat < 4)
      (e : t = goto (if s.pixCnt.toNat = 1023 then .rdUnlock else .pxCsLo)
        { memWrite (pixIndex s.pixCnt) (sample16 s.msb s.lsb) s with pixCnt := s.pixCnt + 1 })
  /-- RD_UNLOCK (R157) -/
  | rdUnlock (h : s.fsm = .rdUnlock) (e : t = rdUnlock s)
  /-- PWR_DOWN (R108) -/
  | pwrDown (h : s.fsm = .pwrDown) (e : t = pwrDown s)
  /-- RESPOND (R111) -/
  | respond (h : s.fsm = .respond) (e : t = respond s)

/-- The sixteen opcodes. -/
theorem opcode_cases (op : Opcode) :
    op = 0x0#4 ∨ op = 0x1#4 ∨ op = 0x2#4 ∨ op = 0x3#4 ∨ op = 0x4#4 ∨ op = 0x5#4 ∨ op = 0x6#4 ∨ op = 0x7#4 ∨
    op = 0x8#4 ∨ op = 0x9#4 ∨ op = 0xA#4 ∨ op = 0xB#4 ∨ op = 0xC#4 ∨ op = 0xD#4 ∨ op = 0xE#4 ∨ op = 0xF#4 := by
  revert op; decide

/-- The opcode map keeps the opcode and the fields (R85). -/
theorem commandOf_fields (op : Opcode) (a v : Byte) (e : Count32) :
    (commandOf op a v e).op = op ∧ (commandOf op a v e).a = a ∧ (commandOf op a v e).v = v ∧
      (commandOf op a v e).e = e := by
  rcases opcode_cases op with rfl | rfl | rfl | rfl | rfl | rfl | rfl | rfl | rfl | rfl | rfl | rfl | rfl | rfl |
    rfl | rfl <;> exact ⟨rfl, rfl, rfl, rfl⟩

/-- A wait in a wait state is one of the two moves of a wait state. -/
theorem wait_move {s : State} {next : Fsm} (h : waitSuccessor s.cmdOp s.fsm = some next) :
    CoreMove s (wait next s) := by
  rcases wait_cases next s with ⟨_, e⟩ | ⟨_, _, e⟩ | ⟨_, h0, e⟩ <;> rw [e]
  · exact .left next h rfl
  · exact .counted _ _ (.inr (by simp [h])) (.inr rfl) rfl
  · exact .counted s.dlyUs _ (.inr (by simp [h])) (.inl (by omega)) rfl

/-- PU_WAIT counts for every opcode. -/
theorem counting_move {s t : State} (h : s.fsm = .puWait)
    (he : (if s.dlyUs = 0#32 then Host.Outcome.fault Fault.puWaitNoBody else .next (wait .puWait s)) =
      (.next t : Result)) : CoreMove s t := by
  split at he
  · cases he
  · cases he
    rcases wait_cases .puWait s with ⟨h0, _⟩ | ⟨_, _, e⟩ | ⟨_, hp, e⟩
    · contradiction
    · exact .counted _ _ (.inl h) (.inr rfl) e
    · exact .counted s.dlyUs _ (.inl h) (.inl (by omega)) e

/-- CB_WAIT is a hold, or takes the answer there is. -/
theorem cbWait_cases (record : Byte → Byte → State → State) (s : State) :
    (s.cbRsp = none ∧ cbWait record s = hold s) ∨
    (∃ x y, s.cbRsp = some (x, y) ∧ cbWait record s = goto .pwrDown (record x y { s with cbRsp := none })) := by
  cases h : s.cbRsp with
  | none => exact .inl ⟨rfl, cbWait_none _ h⟩
  | some p => exact .inr ⟨p.1, p.2, rfl, cbWait_some _ h⟩

/-- The rules that no command decides. -/
theorem stateRule_move {s t : State} (h1 : s.fsm ≠ .idle) (h2 : s.fsm ≠ .puWait) (h3 : s.fsm ≠ .cbIssue)
    (h4 : s.fsm ≠ .cbWait) (e : stateRule s = .next t) : CoreMove s t := by
  unfold stateRule at e
  split at e <;> rename_i h <;> first | contradiction | cases e
  · exact .initBind h rfl
  · exact .initCfg h rfl
  · exact .puDrive h rfl
  · exact .expOpen h rfl
  · exact wait_move (by rw [h]; rfl)
  · exact .expClose h rfl
  · unfold expWaitDrdy
    split
    · exact .ready h ‹_› rfl
    · exact .held h1 (.inr (.inr (.inl ⟨h, Bool.eq_false_iff.mpr ‹_›⟩))) rfl
  · exact .rdStrobeHi h rfl
  · exact wait_move (by rw [h]; rfl)
  · exact .rdStrobeLo h rfl
  · exact wait_move (by rw [h]; rfl)
  · exact .rdLock h rfl
  · unfold rdLockWait
    split
    · exact .granted h ‹_› rfl
    · exact .held h1 (.inr (.inr (.inr (.inl ⟨h, Bool.eq_false_iff.mpr ‹_›⟩)))) rfl
  · exact .pxCsLo h rfl
  · exact .pxXferStart h rfl
  · exact .pxStrobeHi h rfl
  · rcases pxWaitMsb_cases s with ⟨q, e⟩ | ⟨b, rest, q, e⟩ <;> rw [e]
    · exact .held h1 (.inr (.inr (.inr (.inr ⟨.inl h, q⟩)))) rfl
    · exact .popMsb b rest h q rfl
  · exact .pxStrobeLo h rfl
  · rcases pxWaitLsb_cases s with ⟨q, e⟩ | ⟨b, rest, q, e⟩ <;> rw [e]
    · exact .held h1 (.inr (.inr (.inr (.inr ⟨.inr h, q⟩)))) rfl
    · exact .popLsb b rest h q rfl
  · exact .pxCsHi h rfl
  · by_cases hd : s.discCnt.toNat < 4
    · exact .discarded h hd (pxCommit_discard hd)
    · exact .stored h hd (pxCommit_store hd)
  · exact .rdUnlock h rfl
  · exact .pwrDown h rfl
  · exact .respond h rfl

/-- What a core step inside a command can be. -/
theorem busy_move {s t : State} (hf : s.fsm ≠ .idle)
    (he : exec (commandOf s.cmdOp s.cmdA s.cmdV s.cmdE) s = .next t) : CoreMove s t := by
  by_cases h2 : s.fsm = .puWait
  · rcases opcode_cases s.cmdOp with ho | ho | ho | ho | ho | ho | ho | ho | ho | ho | ho | ho | ho | ho | ho | ho <;>
      simp [ho, h2, commandOf, exec, execInit, execCapture, execRdreg, execWrreg, execReset, execGetrev,
        execIllegalZero, execIllegalSeven, execIllegalHigh, stateRule] at he <;>
      first
        | (subst he; exact wait_move (by rw [ho, h2]; rfl))
        | exact counting_move h2 he
  by_cases h3 : s.fsm = .cbIssue
  · rcases opcode_cases s.cmdOp with ho | ho | ho | ho | ho | ho | ho | ho | ho | ho | ho | ho | ho | ho | ho | ho <;>
      simp [ho, h3, commandOf, exec, execInit, execCapture, execRdreg, execWrreg, execReset, execGetrev,
        execIllegalZero, execIllegalSeven, execIllegalHigh, stateRule] at he <;>
      subst he <;> exact .issued _ _ _ _ _ h3 rfl
  by_cases h4 : s.fsm = .cbWait
  · by_cases hr : s.cbRsp = none
    · have : t = hold s := by
        rcases opcode_cases s.cmdOp with ho | ho | ho | ho | ho | ho | ho | ho | ho | ho | ho | ho | ho | ho | ho |
          ho <;>
        simp [ho, h4, hr, commandOf, exec, execInit, execCapture, execRdreg, execWrreg, execReset, execGetrev,
          execIllegalZero, execIllegalSeven, execIllegalHigh, stateRule, cbWait_none] at he <;> exact he.symm
      exact .held hf (.inr (.inl ⟨h4, hr⟩)) this
    · obtain ⟨⟨x, y⟩, hr⟩ := Option.ne_none_iff_exists'.mp hr
      rcases opcode_cases s.cmdOp with ho | ho | ho | ho | ho | ho | ho | ho | ho | ho | ho | ho | ho | ho | ho | ho <;>
        simp [ho, h4, commandOf, exec, execInit, execCapture, execRdreg, execWrreg, execReset, execGetrev,
          execIllegalZero, execIllegalSeven, execIllegalHigh, stateRule] at he <;>
        subst he <;> rw [cbWait_some _ hr]
      all_goals first
        | exact .answeredInit x y h4 ho hr rfl
        | exact .answered x y x y h4 hr (by simp [ho]) (.inl ⟨ho, rfl⟩) rfl
        | exact .answered x y x s.resValue h4 hr (by simp [ho]) (.inr ⟨by simp [ho], rfl⟩) rfl
        | exact .answered x y s.resStatus s.resValue h4 hr (by simp [ho]) (.inr ⟨by simp [ho], rfl⟩) rfl
  rw [exec_eq_stateRule _ hf h2 h3 h4] at he
  exact stateRule_move hf h2 h3 h4 he

/-- Everything a core step out of reset can do. -/
theorem coreStep_move {s t : State} (hr : s.rst = false) (he : coreStep s = .next t) : CoreMove s t := by
  by_cases hf : s.fsm = .idle
  · cases hv : s.cmdValid with
    | false =>
      rw [coreStep_idle_empty hr hf hv] at he
      cases he
      exact .idle hf hv rfl
    | true =>
      rw [coreStep_idle_posted hr hf hv] at he
      obtain ⟨h1, h2, h3, h4⟩ := commandOf_fields (opOf s.cmdWord) (aOf s.cmdWord) (vOf s.cmdWord) (eOf s.cmdWord)
      by_cases hc : opOf s.cmdWord = 0x2#4 → s.pbEn = true ∧ s.pbRxth = true
      · rw [decode, exec_idle _ hf (fun ho _ => hc (h1 ▸ ho)), h1, h2, h3, h4] at he
        cases he
        exact .accepted hf hv hc rfl
      · obtain ⟨ho, hn⟩ := Classical.not_imp.mp hc
        rw [decode, ho] at he
        have : s.pbEn = false ∨ s.pbRxth = false := by
          revert hn; cases s.pbEn <;> cases s.pbRxth <;> simp
        simp [commandOf, exec, execCapture, hf, hv, this] at he
  · rw [coreStep_busy hr hf] at he
    exact busy_move hf he

end Sys2Proof.Machine
end

