-- ==== Sys2Proof/Laws/Memory.lean ====
section
/-! SUPPORT. PIXBUF: a read after a write, and the canonical form every write keeps. -/

namespace Sys2Proof.Machine

/-- A word reads as what was last written to it. -/
theorem Memory.read_write_same (m : List (Nat × PixWord)) (i : Nat) (v : PixWord) :
    Memory.read (Memory.write m i v) i = some v := by
  induction m with
  | nil => simp [Memory.write, Memory.read]
  | cons p rest ih =>
    obtain ⟨k, u⟩ := p
    simp only [Memory.write]
    split
    · simp [Memory.read]
    · split
      · simp [Memory.read]
      · rename_i _ hne
        simp [Memory.read, Ne.symm hne, ih]

/-- A write leaves every other word as it was. -/
theorem Memory.read_write_other (m : List (Nat × PixWord)) {i j : Nat} (v : PixWord) (h : j ≠ i) :
    Memory.read (Memory.write m i v) j = Memory.read m j := by
  induction m with
  | nil => simp [Memory.write, Memory.read, Ne.symm h]
  | cons p rest ih =>
    obtain ⟨k, u⟩ := p
    simp only [Memory.write]
    split
    · simp [Memory.read, Ne.symm h]
    · split
      · rename_i _ hik
        subst hik
        simp [Memory.read, Ne.symm h]
      · simp [Memory.read, ih]

/-- The entries after a write are the one written and old ones. -/
theorem Memory.mem_write (m : List (Nat × PixWord)) (i : Nat) (v : PixWord) (p : Nat × PixWord)
    (h : p ∈ Memory.write m i v) : p = (i, v) ∨ p ∈ m := by
  induction m with
  | nil => simpa [Memory.write] using h
  | cons q rest ih =>
    obtain ⟨k, u⟩ := q
    simp only [Memory.write] at h
    split at h
    · simpa using h
    · split at h
      · rcases List.mem_cons.mp h with h | h
        · exact .inl h
        · exact .inr (List.mem_cons_of_mem _ h)
      · rcases List.mem_cons.mp h with h | h
        · exact .inr (h ▸ List.mem_cons_self)
        · exact (ih h).imp id (List.mem_cons_of_mem _)

/-- A write below `N_PIX` keeps the canonical form. -/
theorem Memory.wf_write {m : List (Nat × PixWord)} {i : Nat} (v : PixWord) (hm : Memory.wf m)
    (hi : i < Config.nPix) : Memory.wf (Memory.write m i v) := by
  refine ⟨?_, fun p hp => ?_⟩
  · have hs := hm.1
    clear hm
    induction m with
    | nil => simp [Memory.write]
    | cons q rest ih =>
      obtain ⟨k, u⟩ := q
      have hk := List.pairwise_cons.mp hs
      simp only [Memory.write]
      split
      · rename_i hik
        refine List.pairwise_cons.mpr ⟨fun p hp => ?_, hs⟩
        rcases List.mem_cons.mp hp with rfl | hp
        · exact hik
        · exact Nat.lt_trans hik (hk.1 p hp)
      · split
        · rename_i _ hik
          subst hik
          exact List.pairwise_cons.mpr ⟨hk.1, hk.2⟩
        · rename_i h1 h2
          refine List.pairwise_cons.mpr ⟨fun p hp => ?_, ih hk.2⟩
          rcases Memory.mem_write _ _ _ _ hp with rfl | hp
          · exact Nat.lt_of_le_of_ne (Nat.le_of_not_lt h1) (Ne.symm h2)
          · exact hk.1 p hp
  · rcases Memory.mem_write _ _ _ _ hp with rfl | hp
    · exact hi
    · exact hm.2 p hp

/-- The buffer at reset is in its canonical form. -/
theorem Memory.wf_reset : Memory.wf State.reset.pixbuf := by decide

/-- `MemWrite` keeps the canonical form: every 10-bit index is below `N_PIX` (R59, R167). -/
theorem memWrite_wf (i : PixIndex) (v : PixWord) {s : State} (h : Memory.wf s.pixbuf) :
    Memory.wf (memWrite i v s).pixbuf :=
  Memory.wf_write v h (by have := i.isLt; simp only [Config.nPix]; omega)

end Sys2Proof.Machine
end

