-- ==== Sys2Proof/Laws/PerInstr.lean ====
section
/-! SUPPORT. Statements about every command as syntax, one lemma per constructor. -/

namespace Sys2Proof.Laws.ReservedClear

/-- The words the encoder makes have 0 in both reserved fields, W[7:4] and W[31:24] (30_encoding.md R80, R84). -/
def Statement (i : Instr) : Prop :=
  (encode i).extractLsb' 4 4 = 0#4 ∧ (encode i).extractLsb' 24 8 = 0#8

/-- The layout puts 0 into both reserved fields. -/
theorem of_wordOf (op : Opcode) (a v : Byte) (e : Count32) :
    (wordOf op a v e).extractLsb' 4 4 = 0#4 ∧ (wordOf op a v e).extractLsb' 24 8 = 0#8 := by
  unfold wordOf
  constructor
  · rw [BitVec.extractLsb'_append_eq_of_le (by decide)]
    rw [BitVec.extractLsb'_append_eq_of_add_le (by decide)]
    rfl
  · rw [BitVec.extractLsb'_append_eq_of_le (by decide)]
    rw [BitVec.extractLsb'_append_eq_of_le (by decide)]
    rw [BitVec.extractLsb'_append_eq_of_le (by decide)]
    rw [BitVec.extractLsb'_append_eq_of_le (by decide)]
    rw [BitVec.extractLsb'_append_eq_of_add_le (by decide)]
    rfl

theorem init (a v : Byte) (e : Count32) : Statement (.init a v e) := of_wordOf _ a v e

theorem capture (a v : Byte) (e : Count32) : Statement (.capture a v e) := of_wordOf _ a v e

theorem getrev (a v : Byte) (e : Count32) : Statement (.getrev a v e) := of_wordOf _ a v e

theorem rdreg (a v : Byte) (e : Count32) : Statement (.rdreg a v e) := of_wordOf _ a v e

theorem wrreg (a v : Byte) (e : Count32) : Statement (.wrreg a v e) := of_wordOf _ a v e

theorem reset (a v : Byte) (e : Count32) : Statement (.reset a v e) := of_wordOf _ a v e

theorem illegalZero (a v : Byte) (e : Count32) : Statement (.illegalZero a v e) := of_wordOf _ a v e

theorem illegalSeven (a v : Byte) (e : Count32) : Statement (.illegalSeven a v e) := of_wordOf _ a v e

theorem illegalHigh (op : Opcode) (a v : Byte) (e : Count32) : Statement (.illegalHigh op a v e) :=
  of_wordOf op a v e

end Sys2Proof.Laws.ReservedClear
end

