-- ==== Sys2Proof/Laws/Run.lean ====
section
/-! SUPPORT. Runs, one step at a time and in parts. -/

namespace Sys2Proof.Safety

open Sys2Proof.Machine

/-- No step. -/
theorem run_zero (s : State) : run 0 s = .next s := rfl

/-- The first step of a run that takes one. -/
theorem run_step {n : Nat} {s s' : State} (h : step s = .next s') : run (n + 1) s = run n s' := by
  have : Sys2Proof.core.step s = .next s' := h
  simp only [run, Host.Core.run]
  rw [this]

/-- A run that ends in a next state takes a first step. -/
theorem run_next_cases {n : Nat} {s t : State} (h : run (n + 1) s = .next t) :
    ∃ s', step s = .next s' ∧ run n s' = .next t := by
  simp only [run, Host.Core.run] at h
  split at h
  · exact ⟨_, ‹_›, h⟩
  · cases h
  · cases h

/-- A run goes on where a shorter one ends. -/
theorem run_add {m n : Nat} {s s' : State} (h : run m s = .next s') : run (m + n) s = run n s' := by
  induction m generalizing s with
  | zero => cases h; rw [Nat.zero_add]
  | succ m ih =>
    obtain ⟨s₁, h₁, h⟩ := run_next_cases h
    rw [Nat.add_right_comm, run_step h₁]
    exact ih h

end Sys2Proof.Safety
end

