-- ==== Sys2Proof/Tests/Slice0.lean ====
section
/-! SUPPORT. The model's own tests: ill-formed terms, words written out from the spec's layout, one or two single steps
per command with the results of 95_test_vectors.md, and, for every statement with hypotheses, states that meet them. -/

namespace Sys2Proof.Tests

open Sys2Proof.Machine Sys2Proof.Safety

/-! ## Helpers -/

/-- The next state of a step, if it has one. -/
def nextOf : Result → Option State
  | .next t => some t
  | .fault _ => none
  | .refused _ => none

/-- Reset, then STATE set. -/
def inState (f : Fsm) : State := { State.reset with fsm := f }

/-- Reset, with a posted word. -/
def posted (w : CmdWord) : State := { State.reset with cmdWord := w, cmdValid := true }

/-- IDLE after a successful INIT 0x15 that read revision 3. -/
def ready : State :=
  { State.reset with
    cmdOp := 0x1, cmdA := 0x15, cbDevaddr := 0x2A, revision := 0x03, pbRxth := true, pbEn := true
    cbReg := 0xFF, cbDev := 0x2A, cbTmoMs := 100, respValid := true, respOp := 0x1 }

/-- A command in progress in one of its states, the lines at the levels of that state. -/
def during (op : Opcode) (f : Fsm) : State :=
  { ready with
    fsm := f, cmdOp := op
    pd := !powered f, shutter := shutterOpen f, read := strobeHigh f, adcCsN := !selected f
    lockReq := lockHeld f, lockGnt := inPixelCycle f || f == .rdUnlock
    resStatus := if isCommand op then 0x00 else 0xFF
    resIllegal := !isCommand op
    resValue := if op = 0x3#4 then 0x03 else 0x00
    respValid := false }

/-- A pixel cycle of the last word: four pairs discarded, 1023 stored. -/
def lastPixel (f : Fsm) : State := { during 0x2 f with discCnt := 4, pixCnt := 1023 }

/-! ## Well-formedness -/

/-- The only check of `WellFormed`: an opcode below 8 is no `illegalHigh`. -/
theorem test_wellFormed_refuses :
    WellFormed (.illegalHigh 0x7 0 0 0) = false ∧ WellFormed (.illegalHigh 0x3 0 0 0) = false ∧
    WellFormed (.illegalHigh 0x0 1 2 3) = false := by decide

/-! ## Words, written out bit by bit from R80 (fields E, RES0, V, A, RES0, OP) -/

theorem test_decode_init :
    decode 0b00000000000000000000000000000000_00000000_00000000_10010101_0000_0001#64 = .init 0x95 0 0 := by
  decide

theorem test_decode_capture :
    decode 0b11111111111111111111111111111111_00000000_00000000_00000000_0000_0010#64 = .capture 0 0 0xFFFFFFFF := by
  decide

theorem test_decode_getrev :
    decode 0b00000000000000000000000000000000_00000000_00000000_00000000_0000_0011#64 = .getrev 0 0 0 := by
  decide

theorem test_decode_rdreg :
    decode 0b00000000000000000000000000000000_00000000_00000000_00010000_0000_0100#64 = .rdreg 0x10 0 0 := by
  decide

theorem test_decode_wrreg :
    decode 0b00000000000000000000000000000000_00000000_10100101_00010000_0000_0101#64 = .wrreg 0x10 0xA5 0 := by
  decide

theorem test_decode_reset :
    decode 0b00000000000000000000000000000000_00000000_00000000_00000000_0000_0110#64 = .reset 0 0 0 := by
  decide

theorem test_decode_illegalZero :
    decode 0b00000000000000000000000000000001_00000000_00000000_00000010_0000_0000#64 = .illegalZero 2 0 1 := by
  decide

theorem test_decode_illegalSeven :
    decode 0b00000000000000000000000000000000_11111111_00000001_00000000_1111_0111#64 = .illegalSeven 0 1 0 := by
  decide

theorem test_decode_illegalHigh :
    decode 0b00000000000000000000000000000000_00000000_00000000_00000000_0000_1000#64 = .illegalHigh 0x8 0 0 0 := by
  decide

/-- The opcode table's numbering; a word longer than 64 bits is no command (R90). -/
theorem test_decodeTableWord :
    decodeTableWord 64 0x5A1005 = some (.wrreg 0x10 0x5A 0) ∧ decodeTableWord 8 0xF3 = some (.getrev 0 0 0) ∧
    decodeTableWord 72 0x3 = none := by decide

/-- The encodings of R91 (95_test_vectors.md L2.1). -/
theorem test_encode :
    encode (.init 0x15 0 0) = 0x1501#64 ∧ encode (.capture 0 0 100) = 0x6400000002#64 ∧
    encode (.wrreg 0x10 0x5A 0) = 0x5A1005#64 := by decide

/-- The assembler round trip and its two refusals (95_test_vectors.md L2.1). -/
theorem test_assembler_line :
    asmLine ['W', 'R', 'R', 'E', 'G', ' ', '0', 'x', '1', '0', ',', ' ', '0', 'x', '5', 'A'] = .word 0x5A1005#64 ∧
    asmLine ['I', 'N', 'I', 'T', ' ', '2', '1', ' ', ';', 'x'] = .word 0x1501#64 ∧
    asmLine [';', 'x'] = .blank ∧
    asmLine ['I', 'N', 'I', 'T', ' ', '0', 'x', '9', '5'] = .refused ∧
    asmLine ['R', 'D', 'R', 'E', 'G', ' ', '2', '5', '6'] = .refused := by decide

/-! ## Single steps (95_test_vectors.md L2.2 to L2.9) -/

/-- L2.2: A[7] is dropped and the address is shifted. -/
theorem test_init_binds_address :
    (nextOf (exec (.init 0x95 0 0) { inState .initBind with cmdOp := 0x1, cmdA := 0x95 })).map (·.cbDevaddr) =
      some 0x2A := by decide

/-- L2.8: a failed revision read answers 1 and keeps the cached revision. -/
theorem test_init_failure :
    (nextOf (exec (.init 0x15 0 0) { during 0x1 .cbWait with cbRsp := some (0xFE, 0x55) })).map
      (fun t => (t.resStatus, t.revision, t.fsm)) = some (0x01, 0x03, .pwrDown) := by decide

/-- L2.6, cycle 5, with the pair of E2E C: stored at index 0. -/
theorem test_capture_stores_fifth :
    (nextOf (exec (.capture 0 0 100) { during 0x2 .pxCommit with discCnt := 4, msb := 0x40, lsb := 0x02 })).map
      (fun t => (t.pixbuf, t.pixCnt, t.fsm)) = some ([(0, 0x2001)], 1, .pxCsLo) := by decide

/-- L2.3: an exposure of 0 holds for one microsecond. -/
theorem test_capture_exposure_zero :
    (nextOf (exec (.capture 0 0 0) (during 0x2 .expOpen))).map (fun t => (t.dlyUs, t.shutter)) =
      some (1, true) := by decide

/-- L2.9: the cached revision. -/
theorem test_getrev :
    (nextOf (exec (.getrev 0 0 0) { ready with cmdValid := true, cmdWord := 3 })).map
      (fun t => (t.fsm, t.resStatus, t.resValue, t.resIllegal, t.pd)) =
      some (.respond, 0x00, 0x03, false, true) := by decide

/-- L2.8: the request. -/
theorem test_rdreg_request :
    (nextOf (exec (.rdreg 0x10 0 0) { during 0x4 .cbIssue with cmdA := 0x10 })).map
      (fun t => (t.cbReq, t.cbKind, t.cbDev, t.cbReg, t.cbTmoMs)) =
      some (true, .memRead, 0x2A, 0x10, 100) := by decide

/-- L2.8: the value of a failed read is passed through. -/
theorem test_rdreg_failure :
    (nextOf (exec (.rdreg 0x10 0 0) { during 0x4 .cbWait with cbRsp := some (0x05, 0x77) })).map
      (fun t => (t.resStatus, t.resValue, t.revision)) = some (0x05, 0x77, 0x03) := by decide

/-- L2.8: the request before any INIT goes to address 0. -/
theorem test_wrreg_request :
    (nextOf (exec (.wrreg 0x10 0x5A 0) { inState .cbIssue with cmdOp := 0x5, cmdA := 0x10, cmdV := 0x5A })).map
      (fun t => (t.cbKind, t.cbDev, t.cbReg, t.cbData)) = some (.memWrite, 0x00, 0x10, 0x5A) := by decide

/-- L2.8: the read byte is discarded. -/
theorem test_wrreg_answer :
    (nextOf (exec (.wrreg 0x10 0x5A 0) { during 0x5 .cbWait with cbRsp := some (0x00, 0xEE) })).map
      (fun t => (t.resStatus, t.resValue, t.fsm)) = some (0x00, 0x00, .pwrDown) := by decide

/-- L2.8: the broadcast, which does not use the device address. -/
theorem test_reset_request :
    (nextOf (exec (.reset 0 0 0) (during 0x6 .cbIssue))).map (fun t => (t.cbKind, t.cbDev, t.cbData, t.cbTmoMs)) =
      some (.transmit, 0x00, 0x06, 100) := by decide

/-- L2.8: the status verbatim, the handle unchanged. -/
theorem test_reset_answer :
    (nextOf (exec (.reset 0 0 0) { during 0x6 .cbWait with cbRsp := some (0x02, 0x00) })).map
      (fun t => (t.resStatus, t.cbDevaddr, t.revision, t.pbEn)) = some (0x02, 0x2A, 0x03, true) := by decide

/-- L2.9: opcode 0. -/
theorem test_illegalZero :
    (nextOf (step (posted 0x0))).map (fun t => (t.fsm, t.cmdOp, t.resStatus, t.resIllegal)) =
      some (.respond, 0x0, 0xFF, true) := by decide

/-- L2.9: opcode 7. -/
theorem test_illegalSeven :
    (nextOf (step (posted 0x7))).map (fun t => (t.fsm, t.cmdOp, t.resStatus, t.resIllegal)) =
      some (.respond, 0x7, 0xFF, true) := by decide

/-- L2.9: the raw opcode 0xF is latched, and echoed by the response. -/
theorem test_illegalHigh :
    (nextOf (step (posted 0xFFFFFFFFFFFFFFFF))).map (fun t => (t.fsm, t.cmdOp, t.resStatus, t.resIllegal)) =
      some (.respond, 0xF, 0xFF, true) ∧
    (nextOf (step { during 0xF .respond with resStatus := 0xFF })).map (fun t => (t.respOp, t.respStatus)) =
      some (0xF, 0xFF) := by decide

/-- R94, L2.5: the sample of two boundary pairs. -/
theorem test_sample : sample16 0xAB 0xCD = 0x55E6#16 ∧ sample16 0xFF 0xFF = 0x7FFF#16 := by decide

/-- A posted word runs as the first command after reset, and a CAPTURE does not until an INIT configured the pixel bus
(R161). -/
theorem test_withFetchWord :
    (nextOf (step (State.reset.withFetchWord 64 0x1501))).map (fun t => (t.fsm, t.cmdA)) =
      some (.initBind, 0x15) ∧
    nextOf (step (State.reset.withFetchWord 64 0x6400000002)) = none ∧
    (nextOf (step (ready.withFetchWord 64 0x6400000002))).map (·.fsm) = some .puDrive := by decide

/-! ## For each statement with hypotheses, a state and operands that meet them, clause by clause -/

/-- The states of `during` used below meet the invariant. -/
theorem ready_inv : BlockInv ready := by
  constructor <;> decide

theorem ready_clean : CleanHandshakes ready := by constructor <;> decide

theorem initBind_inv : BlockInv (during 0x1 .initBind) := by
  constructor <;> decide

theorem pwrDown_inv : BlockInv (during 0x4 .pwrDown) := by
  constructor <;> decide

theorem lastPixel_inv : BlockInv (lastPixel .pxCsLo) ∧ BlockInv (lastPixel .pxCommit) := by
  constructor <;> constructor <;> decide

theorem lastPixel_clean : CleanHandshakes (lastPixel .pxCsLo) ∧ CleanHandshakes (lastPixel .pxCommit) := by
  constructor <;> constructor <;> decide

theorem rdUnlock_inv : BlockInv { during 0x2 .rdUnlock with discCnt := 4, pixCnt := 1024 } := by
  constructor <;> decide

theorem test_witness_DecodeInvertsEncode :
    WellFormed (.illegalHigh 0x8 0 0 0) = true ∧ WellFormed (.illegalHigh 0xF 1 2 3) = true ∧
    WellFormed (.wrreg 0xFF 0xFF 0xFFFFFFFF) = true := by decide

theorem test_witness_OpcodeMapSelectsCommand :
    (0xF0#64).toNat % 16 = 0 ∧ (0xF1#64).toNat % 16 = 1 ∧ (0xF2#64).toNat % 16 = 2 ∧ (0xF3#64).toNat % 16 = 3 ∧
    (0xF4#64).toNat % 16 = 4 ∧ (0xF5#64).toNat % 16 = 5 ∧ (0xF6#64).toNat % 16 = 6 ∧ (0xF7#64).toNat % 16 = 7 ∧
    8 ≤ (0xF8#64).toNat % 16 ∧ 8 ≤ (0xFF#64).toNat % 16 := by decide

theorem test_witness_AssemblerFormsDecode :
    assemble (.init 127) = some 0x7F01#64 ∧ assemble (.init 128) = none ∧
    assemble (.rdreg 255) = some 0xFF04#64 ∧ assemble (.rdreg 256) = none ∧
    assemble (.wrreg 255 255) = some 0xFFFF05#64 ∧ assemble (.wrreg 256 0) = none ∧
    assemble (.wrreg 0 256) = none := by decide

theorem test_witness_AssemblerFormsDecode_capture : 4294967295 ≤ 4294967295 ∧ 4294967295 < 4294967296 := by
  decide

theorem test_witness_StateCodesNameStates :
    fsmOfCode 0x00 = some .idle ∧ fsmOfCode 0x1B = some .respond ∧ 0x1C ≤ (0x1C#5).toNat ∧ 0x1C ≤ (0x1F#5).toNat := by
  decide

theorem test_witness_StepRunsCurrentCommand :
    ready.schedule = [] ∧ { ready with schedule := [.core] }.schedule = .core :: [] ∧
    { ready with schedule := [.env .grant] }.schedule = .env .grant :: [] ∧
    ((posted 3).rst = false ∧ (posted 3).fsm = .idle ∧ (posted 3).cmdValid = true) ∧
    ((during 0x2 .pxCommit).rst = false ∧ (during 0x2 .pxCommit).fsm ≠ .idle) := by decide

theorem test_witness_IdleHoldsWithoutCommand :
    ready.rst = false ∧ ready.fsm = .idle ∧ ready.cmdValid = false := by decide

theorem test_witness_ResetStepSetsCoreRegisters :
    { during 0x4 .cbWait with rst := true, cbReq := true }.rst = true := by decide

theorem test_witness_AcceptanceLatchesCommand :
    let s := { ready with cmdValid := true }
    s.fsm = .idle ∧ s.cmdValid = true ∧ s.pbEn = true ∧ s.pbRxth = true ∧
    WellFormed (.capture 0 0 0) = true ∧ (Instr.capture 0 0 0).op = 0x2#4 ∧
    WellFormed (.illegalZero 0 0 0) = true ∧ (Instr.illegalZero 0 0 0).op ≠ 0x2#4 ∧
    WellFormed (.reset 0 0 0) = true ∧ (Instr.reset 0 0 0).op ≠ 0x2#4 := by decide

theorem test_witness_UnconfiguredCaptureRefused :
    ((posted 2).fsm = .idle ∧ (posted 2).cmdValid = true ∧ (posted 2).pbEn = false) ∧
    ({ posted 2 with pbEn := true }.cmdValid = true ∧ { posted 2 with pbEn := true }.pbRxth = false) := by decide

theorem test_witness_PowerStatesDrivePd :
    (during 0x5 .puDrive).fsm = .puDrive ∧ (during 0x4 .pwrDown).fsm = .pwrDown ∧
    BlockInv (during 0x4 .pwrDown) := ⟨rfl, rfl, pwrDown_inv⟩

theorem test_witness_WaitStatesCountDown :
    waitSuccessor 0x1#4 .puWait = some .cbIssue ∧ waitSuccessor 0x2#4 .puWait = some .expOpen ∧
    waitSuccessor 0x4#4 .puWait = some .cbIssue ∧ waitSuccessor 0x5#4 .puWait = some .cbIssue ∧
    waitSuccessor 0x6#4 .puWait = some .cbIssue ∧ waitSuccessor 0x2#4 .expHold = some .expClose ∧
    waitSuccessor 0x2#4 .rdStrobeWait = some .rdStrobeLo ∧ waitSuccessor 0x2#4 .rdSettle = some .rdLock ∧
    WellFormed (.capture 0 0 0) = true ∧
    (during 0x2 .rdSettle).dlyUs = 0 ∧
    ({ during 0x2 .rdSettle with dlyUs := 1 }.dlyUs ≠ 0 ∧ { during 0x2 .rdSettle with dlyUs := 1 }.dlyPre = 0) ∧
    ({ during 0x2 .rdSettle with dlyUs := 1, dlyPre := 1 }.dlyUs ≠ 0 ∧
      { during 0x2 .rdSettle with dlyUs := 1, dlyPre := 1 }.dlyPre ≠ 0) := by decide

theorem test_witness_RespondPresentsResults : (during 0x6 .respond).fsm = .respond := by decide

theorem test_witness_InitStatesBindAndConfigure :
    (during 0x1 .initBind).fsm = .initBind ∧ (during 0x1 .initCfg).fsm = .initCfg ∧
    BlockInv (during 0x1 .initBind) := ⟨rfl, rfl, initBind_inv⟩

theorem test_witness_IssueStatePostsRequest : (during 0x1 .cbIssue).fsm = .cbIssue := by decide

theorem test_witness_WaitStateRecordsAnswer :
    ((during 0x4 .cbWait).fsm = .cbWait ∧ (during 0x4 .cbWait).cbRsp = none) ∧
    ({ during 0x1 .cbWait with cbRsp := some (0, 3) }.fsm = .cbWait ∧
      { during 0x1 .cbWait with cbRsp := some (0, 3) }.cbRsp = some (0, 3)) ∧
    { during 0x1 .cbWait with cbRsp := some (5, 3) }.cbRsp = some (5, 3) := by decide

theorem test_witness_GetrevAnswersRevision :
    { ready with cmdValid := true }.fsm = .idle ∧ { ready with cmdValid := true }.cmdValid = true := by decide

theorem test_witness_ReservedOpcodeAnsweredIllegal :
    (posted 0).fsm = .idle ∧ (posted 0).cmdValid = true ∧
    (WellFormed (.illegalZero 0 0 0) = true ∧ (Instr.illegalZero 0 0 0).op.toNat = 0) ∧
    (WellFormed (.illegalSeven 0 0 0) = true ∧ 7 ≤ (Instr.illegalSeven 0 0 0).op.toNat) ∧
    (WellFormed (.illegalHigh 0x8 0 0 0) = true ∧ 7 ≤ (Instr.illegalHigh 0x8 0 0 0).op.toNat) ∧
    (WellFormed (.illegalHigh 0xF 0 0 0) = true ∧ 7 ≤ (Instr.illegalHigh 0xF 0 0 0).op.toNat) := by decide

theorem test_witness_ExposureStatesGateShutter :
    (during 0x2 .expOpen).fsm = .expOpen ∧ (during 0x2 .expClose).fsm = .expClose ∧
    ({ during 0x2 .expWaitDrdy with dataRdy := true }.fsm = .expWaitDrdy ∧
      { during 0x2 .expWaitDrdy with dataRdy := true }.dataRdy = true) ∧
    ((during 0x2 .expWaitDrdy).fsm = .expWaitDrdy ∧ (during 0x2 .expWaitDrdy).dataRdy = false) := by decide

theorem test_witness_ReadoutPreambleStates :
    (during 0x2 .rdStrobeHi).fsm = .rdStrobeHi ∧ (during 0x2 .rdStrobeLo).fsm = .rdStrobeLo ∧
    (during 0x2 .rdLock).fsm = .rdLock ∧
    ({ during 0x2 .rdLockWait with lockGnt := true }.fsm = .rdLockWait ∧
      { during 0x2 .rdLockWait with lockGnt := true }.lockGnt = true) ∧
    ((during 0x2 .rdLockWait).fsm = .rdLockWait ∧ (during 0x2 .rdLockWait).lockGnt = false) := by decide

theorem test_witness_PixelCycleStates :
    (during 0x2 .pxCsLo).fsm = .pxCsLo ∧ (during 0x2 .pxXferStart).fsm = .pxXferStart ∧
    (during 0x2 .pxStrobeHi).fsm = .pxStrobeHi ∧ (during 0x2 .pxStrobeLo).fsm = .pxStrobeLo ∧
    (during 0x2 .pxCsHi).fsm = .pxCsHi ∧
    ((during 0x2 .pxWaitMsb).fsm = .pxWaitMsb ∧ (during 0x2 .pxWaitMsb).pbRxq = []) ∧
    ((during 0x2 .pxWaitLsb).fsm = .pxWaitLsb ∧ (during 0x2 .pxWaitLsb).pbRxq = []) ∧
    ({ during 0x2 .pxWaitMsb with pbRxq := [0x40, 0x02] }.fsm = .pxWaitMsb ∧
      { during 0x2 .pxWaitMsb with pbRxq := [0x40, 0x02] }.pbRxq = 0x40 :: [0x02]) ∧
    ({ during 0x2 .pxWaitLsb with pbRxq := [0x02] }.fsm = .pxWaitLsb ∧
      { during 0x2 .pxWaitLsb with pbRxq := [0x02] }.pbRxq = 0x02 :: []) := by decide

theorem test_witness_CommitDiscardsOrStores :
    ({ during 0x2 .pxCommit with discCnt := 3 }.fsm = .pxCommit ∧
      { during 0x2 .pxCommit with discCnt := 3 }.discCnt.toNat < 4) ∧
    ((lastPixel .pxCommit).fsm = .pxCommit ∧ 4 ≤ (lastPixel .pxCommit).discCnt.toNat ∧
      (lastPixel .pxCommit).pixCnt.toNat = 1023 ∧ Memory.wf (lastPixel .pxCommit).pixbuf ∧ 0 ≠ 1023) := by decide

theorem test_witness_UnlockRecordsPixelCount :
    { during 0x2 .rdUnlock with discCnt := 4, pixCnt := 1024 }.fsm = .rdUnlock ∧
    BlockInv { during 0x2 .rdUnlock with discCnt := 4, pixCnt := 1024 } := ⟨rfl, rdUnlock_inv⟩

theorem test_witness_WaitLastsLoadedTime :
    let s := { during 0x2 .expHold with dlyUs := 1, dlyPre := Config.cycPerUs - 1 }
    s.schedule = [] ∧ s.rst = false ∧ waitSuccessor s.cmdOp s.fsm = some .expClose ∧
    s.dlyPre = Config.cycPerUs - 1 ∧ 0 ≤ s.dlyUs.toNat * Config.cycPerUs :=
  ⟨rfl, rfl, rfl, rfl, Nat.zero_le _⟩

theorem test_witness_PowerUpSettlesBeforeUse :
    (during 0x1 .puDrive).cmdOp = 0x1#4 ∧ (during 0x2 .puDrive).cmdOp = 0x2#4 ∧
    (during 0x4 .puDrive).cmdOp = 0x4#4 ∧ (during 0x5 .puDrive).cmdOp = 0x5#4 ∧
    (during 0x6 .puDrive).cmdOp = 0x6#4 ∧ (during 0x6 .puDrive).schedule = [] ∧
    (during 0x6 .puDrive).rst = false ∧ (during 0x6 .puDrive).fsm = .puDrive := by decide

theorem test_witness_PowerUpSettlesBeforeUse_range : 1 ≤ 12 * Config.cycPerUs + 1 := Nat.le_add_left _ _

theorem test_witness_ShutterPulseLength :
    (during 0x2 .expOpen).schedule = [] ∧ (during 0x2 .expOpen).rst = false ∧
    (during 0x2 .expOpen).fsm = .expOpen := by decide

theorem test_witness_ShutterPulseLength_range : 1 ≤ 1 * Config.cycPerUs + 2 :=
  Nat.le_trans (by decide) (Nat.le_add_left 2 _)

theorem test_witness_PollHoldsWithoutInput :
    holding ready ∧ holding (during 0x6 .cbWait) ∧ holding (during 0x2 .expWaitDrdy) ∧
    holding (during 0x2 .rdLockWait) ∧ holding (during 0x2 .pxWaitMsb) ∧ holding (during 0x2 .pxWaitLsb) ∧
    ready.schedule = [] ∧ ready.rst = false := by
  refine ⟨?_, ?_, ?_, ?_, ?_, ?_, rfl, rfl⟩ <;> unfold holding <;> decide

/-- The state before a control-bus command with a schedule. -/
def before (w : CmdWord) (turns : List Turn) : State := { posted w with schedule := turns }

theorem test_witness_InitRunsToResponse :
    let s := before 0x1501 (coreTurns (12 * Config.cycPerUs + 6 + 0) ++ [.env (.cbus 0x00 0x03)])
    s.fsm = .idle ∧ s.rst = false ∧ s.cmdValid = true ∧ s.cbRsp = none ∧ decode s.cmdWord = .init 0x15 0 0 ∧
    s.schedule = coreTurns (12 * Config.cycPerUs + 6 + 0) ++ [.env (.cbus 0x00 0x03)] :=
  ⟨rfl, rfl, rfl, rfl, by decide, rfl⟩

theorem test_witness_RdregRunsToResponse :
    let s := before 0x1004 (coreTurns (12 * Config.cycPerUs + 4 + 7) ++ [.env (.cbus 0x05 0x77)])
    s.fsm = .idle ∧ s.rst = false ∧ s.cmdValid = true ∧ s.cbRsp = none ∧ decode s.cmdWord = .rdreg 0x10 0 0 ∧
    s.schedule = coreTurns (12 * Config.cycPerUs + 4 + 7) ++ [.env (.cbus 0x05 0x77)] :=
  ⟨rfl, rfl, rfl, rfl, by decide, rfl⟩

theorem test_witness_WrregRunsToResponse :
    let s := before 0x5A1005 (coreTurns (12 * Config.cycPerUs + 4 + 0) ++ [.env (.cbus 0x02 0x00)])
    s.fsm = .idle ∧ s.rst = false ∧ s.cmdValid = true ∧ s.cbRsp = none ∧ decode s.cmdWord = .wrreg 0x10 0x5A 0 ∧
    s.schedule = coreTurns (12 * Config.cycPerUs + 4 + 0) ++ [.env (.cbus 0x02 0x00)] :=
  ⟨rfl, rfl, rfl, rfl, by decide, rfl⟩

theorem test_witness_ResetRunsToResponse :
    let s := before 0x6 (coreTurns (12 * Config.cycPerUs + 4 + 0) ++ [.env (.cbus 0x02 0x00)])
    s.fsm = .idle ∧ s.rst = false ∧ s.cmdValid = true ∧ s.cbRsp = none ∧ decode s.cmdWord = .reset 0 0 0 ∧
    s.schedule = coreTurns (12 * Config.cycPerUs + 4 + 0) ++ [.env (.cbus 0x02 0x00)] :=
  ⟨rfl, rfl, rfl, rfl, by decide, rfl⟩

/-- The fixed pair (0x40, 0x02) of E2E C. -/
def fixedPair (j : Nat) : Byte := if j % 2 = 0 then 0x40 else 0x02

theorem test_witness_ReadoutLoopStoresStream :
    let turns := readoutTurns fixedPair 0 1028 ++ [Turn.core]
    let s : State := { during 0x2 .pxCsLo with schedule := turns }
    s.fsm = .pxCsLo ∧ s.rst = false ∧ s.discCnt = 0 ∧ s.pixCnt = 0 ∧ s.pbEn = true ∧ s.pbRxth = true ∧
    s.schedule = turns :=
  ⟨rfl, rfl, rfl, rfl, rfl, rfl, rfl⟩

theorem test_witness_CaptureRunsToResponse :
    let turns := coreTurns (Config.cycPerUs * (max (100#32).toNat 1 + 15) + 12) ++ [.env .grant] ++ coreTurns 1 ++
      readoutTurns fixedPair 0 1028
    let s := { ready with cmdValid := true, cmdWord := 0x6400000002, dataRdy := true, schedule := turns }
    s.fsm = .idle ∧ s.rst = false ∧ s.cmdValid = true ∧ s.pbEn = true ∧ s.pbRxth = true ∧ s.dataRdy = true ∧
    s.lockGnt = false ∧ decode s.cmdWord = .capture 0 0 100 ∧ s.schedule = turns :=
  ⟨rfl, rfl, rfl, rfl, rfl, rfl, rfl, by decide, rfl⟩

theorem test_witness_CleanLaunchMeetsInvariants :
    CleanLaunch { State.reset with dataRdy := true, cmdWord := 5, pixbuf := [(0, 7), (1023, 9)] } :=
  ⟨rfl, by decide⟩

theorem test_witness_StepKeepsBlockInv :
    (BlockInv ready ∧ ∃ t, step ready = .next t) ∧
    (BlockInv (lastPixel .pxCommit) ∧ ∃ t, step (lastPixel .pxCommit) = .next t) :=
  ⟨⟨ready_inv, _, rfl⟩, lastPixel_inv.2, _, rfl⟩

theorem test_witness_StepKeepsCleanHandshakes :
    (lastPixel .pxCommit).rst = false ∧ CleanHandshakes (lastPixel .pxCommit) ∧
    ∃ t, step (lastPixel .pxCommit) = .next t := ⟨rfl, lastPixel_clean.2, _, rfl⟩

theorem test_witness_CleanRunsStayClean :
    let s := { State.reset with dataRdy := true, schedule := [.env (.hostPost 0x1501), .core] }
    CleanLaunch s ∧ Turn.env (.hostRst true) ∉ s.schedule ∧ ∃ t, run 2 s = .next t :=
  ⟨⟨rfl, by decide⟩, by decide, _, rfl⟩

theorem test_witness_NoFaultFromInvariant : BlockInv (during 0x4 .pwrDown) := pwrDown_inv

theorem test_witness_CoreStepIsTotal :
    BlockInv ready ∧ BlockInv (posted 2) ∧ coreStep (posted 2) = .refused .captureUnconfigured :=
  ⟨ready_inv, by constructor <;> decide, rfl⟩

theorem test_witness_IdleInvariant : BlockInv ready ∧ CleanHandshakes ready ∧ ready.fsm = .idle :=
  ⟨ready_inv, ready_clean, rfl⟩

theorem test_witness_RangeInvariants :
    (BlockInv (lastPixel .pxCsLo) ∧ CleanHandshakes (lastPixel .pxCsLo) ∧ (fsmCode .pxCsLo).toNat = 0x11) ∧
    (BlockInv (lastPixel .pxCommit) ∧ CleanHandshakes (lastPixel .pxCommit) ∧ (fsmCode .pxCommit).toNat = 0x18) :=
  ⟨⟨lastPixel_inv.1, lastPixel_clean.1, rfl⟩, lastPixel_inv.2, lastPixel_clean.2, rfl⟩

theorem test_witness_SensorPoweredStates : BlockInv (during 0x4 .pwrDown) ∧ BlockInv ready :=
  ⟨pwrDown_inv, ready_inv⟩

/-- Two bytes 0xFF stored beside a launch word with bit 15 set; and a buffer whose words have it 0. -/
theorem test_witness_StoredWordsKeepBitFifteenClear :
    (let s := { lastPixel .pxCommit with pixbuf := [(0, 0xFFFF)], msb := 0xFF, lsb := 0xFF }
     (nextOf (step s)).map (fun t => (t.pixbuf, t.history)) =
       some ([(0, 0xFFFF), (1023, 0x7FFF)], [.pixWrite 1023 0x7FFF])) ∧
    (let s := { lastPixel .pxCommit with pixbuf := [(0, 0x7FFF)], msb := 0xFF, lsb := 0xFF }
     (∀ p ∈ s.pixbuf, p.2.getLsbD 15 = false) ∧ ∃ t, step s = .next t) := ⟨by decide, by decide, _, rfl⟩

theorem test_witness_StateFollowsCommandPath :
    (BlockInv (lastPixel .pxCommit) ∧ (lastPixel .pxCommit).rst = false ∧ (lastPixel .pxCommit).fsm ≠ .idle ∧
      ∃ t, coreStep (lastPixel .pxCommit) = .next t) ∧
    (BlockInv (posted 7) ∧ (posted 7).cmdValid = true ∧ ∃ t, coreStep (posted 7) = .next t) ∧
    (BlockInv ready ∧ ready.cmdValid = false ∧ ∃ t, coreStep ready = .next t) :=
  ⟨⟨lastPixel_inv.2, rfl, by decide, _, rfl⟩,
    ⟨by constructor <;> decide, rfl, _, rfl⟩, ready_inv, rfl, _, rfl⟩

/-- Each of the three changes happens: the address, the revision, the configuration bits. -/
theorem test_witness_HandleWrittenOnlyByInit :
    (nextOf (step { inState .initBind with cmdOp := 0x1, cmdA := 0x15 })).map (·.cbDevaddr) = some 0x2A ∧
    (nextOf (step { inState .cbWait with cmdOp := 0x1, cbRsp := some (0x00, 0x03) })).map (·.revision) =
      some 0x03 ∧
    (nextOf (step { inState .initCfg with cmdOp := 0x1 })).map (fun t => (t.pbEn, t.pbRxth)) = some (true, true) ∧
    (inState .initCfg).rst = false := by decide

theorem test_witness_BufferWrittenOnlyByCommit :
    (nextOf (step (lastPixel .pxCommit))).map (·.pixbuf) = some [(1023, 0)] ∧ (lastPixel .pxCommit).pixbuf = [] := by
  decide

/-- The three outcomes, the fault at a pair of STATE and opcode off every path. -/
theorem test_witness_BufferContentsNeverRead :
    (∃ t, step ready = .next t) ∧ step (during 0x3 .puWait) = .fault .puWaitNoBody ∧
    step (posted 2) = .refused .captureUnconfigured := ⟨⟨_, rfl⟩, rfl, rfl⟩

theorem test_witness_ResponseIsOneStepPulse :
    ((during 0x4 .respond).rst = false ∧ ∃ t, coreStep (during 0x4 .respond) = .next t) ∧
    (ready.rst = false ∧ ready.fsm ≠ .respond ∧ ∃ t, coreStep ready = .next t) :=
  ⟨⟨rfl, _, rfl⟩, rfl, by decide, _, rfl⟩

theorem test_witness_ResponseMeetsTable :
    BlockInv (during 0x1 .respond) ∧ BlockInv { during 0x2 .respond with resCount := 1024 } ∧
    BlockInv (during 0x3 .respond) ∧ BlockInv { during 0x4 .respond with resStatus := 5, resValue := 0x77 } ∧
    BlockInv { during 0x5 .respond with resStatus := 2 } ∧ BlockInv { during 0x6 .respond with resStatus := 2 } ∧
    BlockInv (during 0x0 .respond) ∧ BlockInv (during 0x7 .respond) ∧ BlockInv (during 0xF .respond) ∧
    (during 0xF .respond).fsm = .respond ∧ (during 0xF .respond).rst = false := by
  refine ⟨?_, ?_, ?_, ?_, ?_, ?_, ?_, ?_, ?_, rfl, rfl⟩ <;> constructor <;> decide

/-- A posted word waits in a busy block, and is consumed in IDLE. -/
theorem test_witness_PostedWordWaitsForIdle :
    (nextOf (step { during 0x6 .cbWait with cmdValid := true })).map (·.cmdValid) = some true ∧
    (nextOf (step (posted 3))).map (·.cmdValid) = some false := by decide

theorem test_witness_EnvironmentStepsAsOwned :
    ready.cmdValid = false ∧ (posted 3).cmdValid = true ∧
    (let s := { ready with pbTxpend := 1 }; s.pbEn = true ∧ s.pbRxth = true ∧ 0 < s.pbTxpend) ∧
    ready.pbTxpend = 0 ∧ State.reset.pbEn = false ∧ { ready with pbRxth := false }.pbRxth = false ∧
    (let s := { during 0x4 .cbWait with cbReq := true }; s.cbReq = true ∧ s.cbRsp = none) ∧
    ready.cbReq = false ∧ { ready with cbRsp := some (0, 0) }.cbRsp ≠ none ∧
    (let s := { ready with cbLate := true }; s.cbLate = true ∧ s.cbRsp = none) ∧ ready.cbLate = false ∧
    (let s := during 0x2 .rdLockWait; s.lockReq = true ∧ s.lockGnt = false) ∧
    (let s := { ready with lockGnt := true }; s.lockReq = false ∧ s.lockGnt = true) := by decide

/-- A posted word waits in a busy block, is consumed in IDLE, and the two conditions on CAPTURE are met. -/
theorem test_witness_StatusBitsTellState :
    (let s := { during 0x6 .cbWait with cmdValid := true }
     s.rst = false ∧ s.cmdValid = true ∧ cmdReady s = false ∧ ∃ t, coreStep s = .next t) ∧
    (let s := { ready with cmdValid := true, cmdWord := 2 }
     s.rst = false ∧ s.cmdValid = true ∧ cmdReady s = true ∧ s.cmdWord.toNat % 16 = 2 ∧ s.pbEn = true ∧
       s.pbRxth = true ∧ ∃ t, coreStep s = .next t) ∧
    ((posted 3).cmdWord.toNat % 16 ≠ 2 ∧ cmdReady (posted 3) = true) :=
  ⟨⟨rfl, rfl, rfl, _, rfl⟩, ⟨rfl, rfl, rfl, by decide, rfl, rfl, _, rfl⟩, by decide, rfl⟩

theorem test_witness_EnvironmentLeavesCoreRegisters :
    ∃ t, envStep (.cbus 0x00 0x03) { during 0x1 .cbWait with cbReq := true } = .next t := ⟨_, rfl⟩

/-- CAPTURE 0 and CAPTURE 1 posted, the second with every reserved and unused bit set; the same pair latched, at
EXP_OPEN; and a pair of unconfigured CAPTUREs, which are refused. -/
theorem test_witness_IgnoredFieldsChangeNothing :
    (let s := { ready with cmdValid := true, cmdWord := 0x0000000000000002 }
     BlockInv s ∧ DiffersInIgnoredFields s { s with cmdWord := 0x00000001FFFFFFF2 } ∧ ∃ t, step s = .next t) ∧
    (let s := during 0x2 .expOpen
     BlockInv s ∧ DiffersInIgnoredFields s { s with cmdE := 1, cmdV := 3, cmdWord := 9 } ∧ ∃ t, step s = .next t) ∧
    (BlockInv (posted 2) ∧ DiffersInIgnoredFields (posted 2) { posted 2 with cmdA := 9, cmdWord := 0xF2 } ∧
      step (posted 2) = .refused .captureUnconfigured) := by
  refine ⟨⟨?_, ⟨rfl, ?_, ?_⟩, _, rfl⟩, ⟨?_, ⟨rfl, ?_, ?_⟩, _, rfl⟩, ?_, ⟨rfl, ?_, ?_⟩, rfl⟩
  all_goals first
    | (constructor <;> decide)
    | (unfold sameCommand sameOperands; decide)
    | (unfold sameOperands; decide)

end Sys2Proof.Tests
end

section
/-! PROOFS. Whose turn a step is, and which command a core step is about. -/

namespace Sys2Proof.Proofs

open Sys2Proof.Machine

/-- Settles O7: the three turns of a schedule by `step_empty`, `step_core` and `step_env`; the command of a core step by
`coreStep_idle_posted` in IDLE and `coreStep_busy` elsewhere. -/
theorem stepRunsCurrentCommand : Obligations.StepRunsCurrentCommand := by
  unfold Obligations.StepRunsCurrentCommand
  intro s
  exact ⟨step_empty, fun _ => step_core, fun _ _ => step_env, coreStep_idle_posted, coreStep_busy⟩

end Sys2Proof.Proofs
end

section
/-! PROOFS. What one step of any agent can do: the inversions that the invariants and the agents' rules go through. -/

namespace Sys2Proof.Machine

open Sys2Proof.Safety

/-- A core step is the block reset or one of the moves of `CoreMove` (R96). -/
theorem coreStep_cases {s t : State} (h : coreStep s = .next t) :
    (s.rst = true ∧ t = resetCore s) ∨ (s.rst = false ∧ CoreMove s t) := by
  cases hr : s.rst with
  | true => exact .inl ⟨rfl, Host.Outcome.next.inj (h.symm.trans (coreStep_rst hr))⟩
  | false => exact .inr ⟨rfl, coreStep_move hr h⟩

/-- A step is the block reset, a core move or an agent's step, from the state whose schedule is what the turn leaves of
it (R8). -/
theorem step_cases {s t : State} (h : step s = .next t) :
    ∃ rest, (s.rst = true ∧ t = resetCore { s with schedule := rest }) ∨
      (s.rst = false ∧ CoreMove { s with schedule := rest } t) ∨
      ∃ e, envStep e { s with schedule := rest } = .next t := by
  match hs : s.schedule with
  | [] =>
    rw [step_empty hs] at h
    exact ⟨s.schedule, or_assoc.mp (.inl (coreStep_cases h))⟩
  | .core :: rest =>
    rw [step_core hs] at h
    exact ⟨rest, or_assoc.mp (.inl (coreStep_cases h))⟩
  | .env e :: rest =>
    rw [step_env hs] at h
    exact ⟨rest, .inr (.inr ⟨e, h⟩)⟩

/-- What every agent's step leaves alone and in which direction it moves the handshake cells (R40, R43, R47, R48, R51). -/
theorem envStep_effects {e : EnvStep} {s t : State} (h : envStep e s = .next t) :
    t = { s with
          cmdValid := t.cmdValid, cmdWord := t.cmdWord, pbTxpend := t.pbTxpend, pbRxq := t.pbRxq
          dataRdy := t.dataRdy, cbReq := t.cbReq, cbRsp := t.cbRsp, lockGnt := t.lockGnt, rst := t.rst
          cbLate := t.cbLate } ∧
    (t.cbReq = true → s.cbReq = true) ∧
    (s.cmdValid = true → t.cmdValid = true ∧ t.cmdWord = s.cmdWord) ∧
    t.pbTxpend ≤ s.pbTxpend ∧
    (s.lockReq = true → s.lockGnt = true → t.lockGnt = true) := by
  rcases envStep_cases h with ⟨_, _, _, rfl⟩ | ⟨_, rfl⟩ | ⟨_, rfl⟩ | ⟨_, _, rfl⟩ | ⟨_, _, rfl⟩ |
    ⟨_, _, _, _, _, rfl⟩ | ⟨_, _, _, _, _, rfl⟩ | ⟨_, _, _, _, _, rfl⟩ | ⟨_, _, _, rfl⟩ | ⟨_, _, _, rfl⟩ <;>
    refine ⟨rfl, ?_⟩ <;> simp_all

/-- INIT's result as one update of two registers (R119, R121). -/
theorem recordInit_eq (status rdata : Byte) (s : State) :
    recordInit status rdata s =
      { s with
        revision := if status = 0x00 then rdata else s.revision
        resStatus := if status = 0x00 then 0x00 else 0x01 } := by
  unfold recordInit
  split <;> rfl

/-- A command's body starts in one of three states (R100). -/
theorem dispatch_cases (op : Opcode) :
    dispatch op = .initBind ∨ dispatch op = .puDrive ∨ dispatch op = .respond := by
  unfold dispatch
  split_ifs <;> simp

/-- The wait states and their successors (R103, R106). -/
theorem waitSuccessor_cases {op : Opcode} {f n : Fsm} (h : waitSuccessor op f = some n) :
    (f = .puWait ∧ n = .cbIssue ∧ (op = 0x1#4 ∨ op = 0x4#4 ∨ op = 0x5#4 ∨ op = 0x6#4)) ∨
    (f = .puWait ∧ n = .expOpen ∧ op = 0x2#4) ∨ (f = .expHold ∧ n = .expClose) ∨
    (f = .rdStrobeWait ∧ n = .rdStrobeLo) ∨ (f = .rdSettle ∧ n = .rdLock) := by
  cases f with
  | puWait =>
    simp only [waitSuccessor] at h
    split_ifs at h <;> simp_all
  | _ => simp_all [waitSuccessor]

/-- A core move in IDLE is the hold or the acceptance (R98, R99). -/
theorem CoreMove.of_idle {s t : State} (m : CoreMove s t) (h : s.fsm = .idle) :
    (s.cmdValid = false ∧ t = hold s) ∨
    (s.cmdValid = true ∧ (opOf s.cmdWord = 0x2#4 → s.pbEn = true ∧ s.pbRxth = true) ∧
      t = accept (opOf s.cmdWord) (aOf s.cmdWord) (vOf s.cmdWord) (eOf s.cmdWord) s) := by
  cases m with
  | idle _ posted e => exact .inl ⟨posted, e⟩
  | accepted _ posted configured e => exact .inr ⟨posted, configured, e⟩
  | left _ hw => simp [h, waitSuccessor] at hw
  | counted _ _ hw => simp [h, waitSuccessor] at hw
  | _ => simp_all only [reduceCtorEq]

/-- A core move leaves RD_LOCK_WAIT only under a grant (R142). -/
theorem CoreMove.of_rdLockWait {s t : State} (m : CoreMove s t) (h : s.fsm = .rdLockWait) :
    t = hold s ∨ s.lockGnt = true := by
  cases m with
  | held _ _ e => exact .inl e
  | granted _ grant => exact .inr grant
  | left _ hw => simp [h, waitSuccessor] at hw
  | counted _ _ hw => simp [h, waitSuccessor] at hw
  | _ => simp_all only [reduceCtorEq]

/-- A posted word that is no unconfigured CAPTURE is accepted by the core step in IDLE (R99, R161). -/
theorem coreStep_idle_accepts {s : State} (hr : s.rst = false) (hi : s.fsm = .idle) (hv : s.cmdValid = true)
    (hc : opOf s.cmdWord = 0x2#4 → s.pbEn = true ∧ s.pbRxth = true) :
    coreStep s = .next (accept (opOf s.cmdWord) (aOf s.cmdWord) (vOf s.cmdWord) (eOf s.cmdWord) s) := by
  obtain ⟨hop, ha, hfv, he⟩ := commandOf_fields (opOf s.cmdWord) (aOf s.cmdWord) (vOf s.cmdWord) (eOf s.cmdWord)
  rw [coreStep_idle_posted hr hi hv, decode, exec_idle _ hi (fun h _ => hc (hop ▸ h)), hop, ha, hfv, he]

end Sys2Proof.Machine
end

section
/-! PROOFS. The graph of STATE: every core move inside a command follows `successors`, and what the invariants need to
know of an edge. -/

namespace Sys2Proof.Machine

open Sys2Proof.Safety

/-- A core move inside a command goes to a successor of its state (R112). -/
theorem CoreMove.fsm_mem_successors {s t : State} (m : CoreMove s t) (hb : s.fsm ≠ .idle) :
    t.fsm ∈ successors s.cmdOp s.fsm := by
  cases m with
  | idle h => exact absurd h hb
  | accepted h => exact absurd h hb
  | left next h e =>
    rw [e, goto_fsm]
    rcases waitSuccessor_cases h with ⟨hf, rfl, ho⟩ | ⟨hf, rfl, ho⟩ | ⟨hf, rfl⟩ | ⟨hf, rfl⟩ | ⟨hf, rfl⟩
    · rcases ho with ho | ho | ho | ho <;> simp [hf, ho, successors]
    all_goals simp [successors, *]
  | counted us pre h _ e =>
    rw [e, hold_fsm]
    show s.fsm ∈ _
    revert h
    cases s.fsm <;> simp [waitSuccessor, successors]
  | held _ poll e =>
    rw [e, hold_fsm]
    rcases poll with ⟨h, _⟩ | ⟨h, _⟩ | ⟨h, _⟩ | ⟨h, _⟩ | ⟨h | h, _⟩ <;> simp_all [successors]
  | stored h _ e => rw [e, goto_fsm, h]; split <;> simp [successors]
  | _ => simp_all [successors] <;> rfl

/-- A body starts on its command's path (R100, R112). -/
theorem onPath_dispatch (op : Opcode) : onPath op (dispatch op) = true := by
  revert op; decide

/-- The successors of a state on a command's path are on it, up to the return to IDLE (R112). -/
theorem successors_onPath {op : Opcode} {f : Fsm} (hp : onPath op f = true) :
    ∀ n ∈ successors op f, n ≠ .idle → onPath op n = true := by
  cases f with
  | puWait =>
    simp only [successors]
    split_ifs <;> simp_all [onPath]
  | _ => simp_all [successors, onPath, isCommand]

/-- The states that need the lock's grant are entered from RD_LOCK_WAIT alone (R142, R157). -/
theorem successors_locked {op : Opcode} {f : Fsm} :
    ∀ n ∈ successors op f, inPixelCycle n = true ∨ n = .rdUnlock → inPixelCycle f = true ∨ f = .rdLockWait := by
  cases f with
  | puWait =>
    simp only [successors]
    split_ifs <;> simp [inPixelCycle]
  | _ => simp [successors, inPixelCycle]

/-- Where no counter is written, the preamble is not entered, a pixel cycle is entered from RD_LOCK_WAIT alone, and
RD_UNLOCK is not entered (R137, R142, R150). -/
theorem successors_region {op : Opcode} {f : Fsm} (h1 : f ≠ .rdStrobeHi) (h2 : f ≠ .pxCommit) :
    ∀ n ∈ successors op f, n ≠ .rdUnlock ∧ (inPreamble n = true → inPreamble f = true) ∧
      (inPixelCycle n = true → inPixelCycle f = true ∨ f = .rdLockWait) := by
  cases f with
  | puWait =>
    simp only [successors]
    split_ifs <;> simp_all [inPreamble, inPixelCycle]
  | _ => simp_all [successors, inPreamble, inPixelCycle]

/-- A CAPTURE reaches PWR_DOWN and RESPOND through RD_UNLOCK alone (R112). -/
theorem successors_captureEnd {op : Opcode} {f : Fsm} (hp : onPath op f = true) (h : f ≠ .rdUnlock) :
    ∀ n ∈ successors op f, n ≠ .idle →
      (op = 0x2#4 ∧ (n = .pwrDown ∨ n = .respond) ↔ op = 0x2#4 ∧ (f = .pwrDown ∨ f = .respond)) := by
  cases f with
  | puWait =>
    simp only [successors]
    split_ifs <;> simp
  | _ => simp_all [successors, onPath]

end Sys2Proof.Machine
end

section
/-! PROOFS. Which moves write which registers, one lemma per group of registers. -/

namespace Sys2Proof.Machine

open Sys2Proof.Safety

variable {s t : State}

/-- The output lines and LOCK_REQ of a state. -/
def outputs (s : State) : Lines × Bool := (lines s, s.lockReq)

/-- The levels of the output lines and of LOCK_REQ that `BlockInv` gives each state (R77, R110, R135, R136, R151). -/
def levels (f : Fsm) : Lines × Bool :=
  ({ pd := !powered f, clrData := false, clrPix := false, shutter := shutterOpen f, read := strobeHigh f
     adcCsN := !selected f }, lockHeld f)

theorem levels_dispatch (op : Opcode) : levels (dispatch op) = levels .idle := by
  rcases dispatch_cases op with h | h | h <;> rw [h] <;> rfl

theorem levels_waitSuccessor {op : Opcode} {f n : Fsm} (h : waitSuccessor op f = some n) :
    levels n = levels f := by
  rcases waitSuccessor_cases h with ⟨rfl, rfl, _⟩ | ⟨rfl, rfl, _⟩ | ⟨rfl, rfl⟩ | ⟨rfl, rfl⟩ | ⟨rfl, rfl⟩ <;> rfl

/-- The outputs follow STATE: the moves that change a level are listed one by one, the others go between states of equal
levels. -/
theorem CoreMove.outputs_eq (m : CoreMove s t) (hs : outputs s = levels s.fsm) : outputs t = levels t.fsm := by
  cases m with
  | idle _ _ e => rw [e]; exact hs
  | counted _ _ _ _ e => rw [e]; exact hs
  | held _ _ e => rw [e]; exact hs
  | accepted h posted _ e =>
    rw [e, accept_posted _ _ _ _ posted]
    exact hs.trans (h ▸ (levels_dispatch _).symm)
  | left _ h e => rw [e]; exact hs.trans (levels_waitSuccessor h).symm
  | puDrive h e => rw [e]; rw [h] at hs; exact congrArg (fun o => ({ o.1 with pd := false }, o.2)) hs
  | expOpen h e => rw [e]; rw [h] at hs; exact congrArg (fun o => ({ o.1 with shutter := true }, o.2)) hs
  | expClose h e => rw [e]; rw [h] at hs; exact congrArg (fun o => ({ o.1 with shutter := false }, o.2)) hs
  | rdStrobeHi h e => rw [e]; rw [h] at hs; exact congrArg (fun o => ({ o.1 with read := true }, o.2)) hs
  | rdStrobeLo h e => rw [e]; rw [h] at hs; exact congrArg (fun o => ({ o.1 with read := false }, o.2)) hs
  | rdLock h e => rw [e]; rw [h] at hs; exact congrArg (fun o => (o.1, true)) hs
  | pxCsLo h e => rw [e]; rw [h] at hs; exact congrArg (fun o => ({ o.1 with adcCsN := false }, o.2)) hs
  | pxStrobeHi h e => rw [e]; rw [h] at hs; exact congrArg (fun o => ({ o.1 with read := true }, o.2)) hs
  | pxStrobeLo h e => rw [e]; rw [h] at hs; exact congrArg (fun o => ({ o.1 with read := false }, o.2)) hs
  | pxCsHi h e => rw [e]; rw [h] at hs; exact congrArg (fun o => ({ o.1 with adcCsN := true }, o.2)) hs
  | rdUnlock h e => rw [e]; rw [h] at hs; exact congrArg (fun o => (o.1, false)) hs
  | pwrDown h e => rw [e]; rw [h] at hs; exact congrArg (fun o => ({ o.1 with pd := true }, o.2)) hs
  | initBind h e => rw [e]; rw [h] at hs; exact congrArg (fun o => ((levels .initCfg).1, o.2)) hs
  | answeredInit _ _ h _ _ e => rw [e, recordInit_eq]; rw [h] at hs; exact hs
  | stored h _ e => rw [e]; rw [h] at hs; split <;> exact hs
  | _ => simp_all only; exact hs

/-- The cells that the environment alone writes, and the model's own fields, stay over a core move (R40, R44, R48). -/
theorem CoreMove.envCells_kept (m : CoreMove s t) :
    t.cmdWord = s.cmdWord ∧ t.lockGnt = s.lockGnt ∧ t.dataRdy = s.dataRdy ∧ t.rst = s.rst ∧ t.cbLate = s.cbLate ∧
      t.schedule = s.schedule := by
  cases m with
  | accepted _ posted _ e => rw [e, accept_posted _ _ _ _ posted]; exact ⟨rfl, rfl, rfl, rfl, rfl, rfl⟩
  | answeredInit _ _ _ _ _ e => rw [e, recordInit_eq]; exact ⟨rfl, rfl, rfl, rfl, rfl, rfl⟩
  | _ => rename_i e; rw [e]; exact ⟨rfl, rfl, rfl, rfl, rfl, rfl⟩

/-- The counters change in RD_STROBE_HI and PX_COMMIT alone (R137, R150). -/
theorem CoreMove.counters_cases (m : CoreMove s t) :
    (s.fsm = .rdStrobeHi ∧ t.fsm = .rdStrobeWait ∧ t.discCnt = 0 ∧ t.pixCnt = 0) ∨
    (s.fsm = .pxCommit ∧ s.discCnt.toNat < 4 ∧ t.fsm = .pxCsLo ∧ t.discCnt = s.discCnt + 1 ∧
      t.pixCnt = s.pixCnt) ∨
    (s.fsm = .pxCommit ∧ ¬ s.discCnt.toNat < 4 ∧
      t.fsm = (if s.pixCnt.toNat = 1023 then .rdUnlock else .pxCsLo) ∧ t.discCnt = s.discCnt ∧
      t.pixCnt = s.pixCnt + 1) ∨
    ((t.fsm = s.fsm ∨ s.fsm ≠ .rdStrobeHi ∧ s.fsm ≠ .pxCommit) ∧ t.discCnt = s.discCnt ∧
      t.pixCnt = s.pixCnt) := by
  cases m with
  | accepted h posted _ e => simp [e, accept_posted _ _ _ _ posted, h]
  | left _ hw e =>
    have h : s.fsm ≠ .rdStrobeHi ∧ s.fsm ≠ .pxCommit := by
      constructor <;> intro h <;> simp [h, waitSuccessor] at hw
    rw [e]; exact .inr (.inr (.inr ⟨.inr h, rfl, rfl⟩))
  | counted _ _ _ _ e => rw [e]; exact .inr (.inr (.inr ⟨.inl rfl, rfl, rfl⟩))
  | held _ _ e => rw [e]; exact .inr (.inr (.inr ⟨.inl rfl, rfl, rfl⟩))
  | rdStrobeHi h e => rw [e]; exact .inl ⟨h, rfl, rfl, rfl⟩
  | discarded h few e => rw [e]; exact .inr (.inl ⟨h, few, rfl, rfl, rfl⟩)
  | stored h all e => rw [e]; exact .inr (.inr (.inl ⟨h, all, rfl, rfl, rfl⟩))
  | answeredInit _ _ h _ _ e => simp [e, recordInit_eq, h]
  | _ => simp_all <;> exact ⟨rfl, rfl⟩

/-- The timer counts down or is loaded with a full microsecond (R102, R103). -/
theorem CoreMove.dlyPre_lt (m : CoreMove s t) (hs : s.dlyPre < Config.cycPerUs) : t.dlyPre < Config.cycPerUs := by
  have hfull : Config.cycPerUs - 1 < Config.cycPerUs := Nat.lt_succ_self _
  cases m with
  | accepted _ posted _ e => rw [e, accept_posted _ _ _ _ posted]; exact hs
  | counted us pre _ le e => rw [e]; show pre < _; omega
  | puDrive _ e => rw [e]; exact hfull
  | expOpen _ e => rw [e]; exact hfull
  | rdStrobeHi _ e => rw [e]; exact hfull
  | rdStrobeLo _ e => rw [e]; exact hfull
  | answeredInit _ _ _ _ _ e => rw [e, recordInit_eq]; exact hs
  | _ => rename_i e; rw [e]; exact hs

/-- Every store keeps the canonical form of the buffer (R59). -/
theorem CoreMove.pixbuf_wf (m : CoreMove s t) (hs : Memory.wf s.pixbuf) : Memory.wf t.pixbuf := by
  cases m with
  | accepted _ posted _ e => rw [e, accept_posted _ _ _ _ posted]; exact hs
  | stored _ _ e => rw [e]; exact memWrite_wf _ _ hs
  | answeredInit _ _ _ _ _ e => rw [e, recordInit_eq]; exact hs
  | _ => rename_i e; rw [e]; exact hs

/-- RESPOND alone presents a response (R97, R111). -/
theorem CoreMove.response_cases (m : CoreMove s t) :
    t = present s ∧ s.fsm = .respond ∨ t.respValid = false ∧ t.respCount = s.respCount := by
  cases m with
  | accepted _ posted _ e => rw [e, accept_posted _ _ _ _ posted]; exact .inr ⟨rfl, rfl⟩
  | respond h e => exact .inl ⟨e, h⟩
  | answeredInit _ _ _ _ _ e => rw [e, recordInit_eq]; exact .inr ⟨rfl, rfl⟩
  | _ => rename_i e; rw [e]; exact .inr ⟨rfl, rfl⟩

/-- CB_DEVADDR is written in INIT_BIND alone (R24, R116). -/
theorem CoreMove.cbDevaddr_cases (m : CoreMove s t) :
    t.cbDevaddr = s.cbDevaddr ∨ s.fsm = .initBind ∧ t.cbDevaddr = devAddr s.cmdA := by
  cases m with
  | accepted _ posted _ e => rw [e, accept_posted _ _ _ _ posted]; exact .inl rfl
  | initBind h e => rw [e]; exact .inr ⟨h, rfl⟩
  | answeredInit _ _ _ _ _ e => rw [e, recordInit_eq]; exact .inl rfl
  | _ => rename_i e; rw [e]; exact .inl rfl

/-- The pixel-bus bits are written in INIT_CFG alone, which sets both (R26, R117). -/
theorem CoreMove.configBits_cases (m : CoreMove s t) :
    (t.pbEn = s.pbEn ∧ t.pbRxth = s.pbRxth) ∨ s.fsm = .initCfg ∧ t.pbEn = true ∧ t.pbRxth = true := by
  cases m with
  | accepted _ posted _ e => rw [e, accept_posted _ _ _ _ posted]; exact .inl ⟨rfl, rfl⟩
  | initCfg h e => rw [e]; exact .inr ⟨h, rfl, rfl⟩
  | answeredInit _ _ _ _ _ e => rw [e, recordInit_eq]; exact .inl ⟨rfl, rfl⟩
  | _ => rename_i e; rw [e]; exact .inl ⟨rfl, rfl⟩

/-- REVISION is written by INIT's successful answer alone (R25, R121). -/
theorem CoreMove.revision_cases (m : CoreMove s t) :
    t.revision = s.revision ∨ s.fsm = .cbWait ∧ s.cmdOp = 0x1#4 ∧ s.cbRsp = some (0, t.revision) := by
  cases m with
  | accepted _ posted _ e => rw [e, accept_posted _ _ _ _ posted]; exact .inl rfl
  | answeredInit status rdata h op rsp e =>
    rw [e, recordInit_eq]
    by_cases h0 : status = 0
    · exact .inr ⟨h, op, by simp [rsp, h0]⟩
    · exact .inl (if_neg h0)
  | _ => rename_i e; rw [e]; exact .inl rfl

/-- The latched opcode, the mailbox and RES_ILLEGAL are written in IDLE alone (R23, R99). -/
theorem CoreMove.latches_kept (m : CoreMove s t) (hb : s.fsm ≠ .idle) :
    t.cmdOp = s.cmdOp ∧ t.cmdValid = s.cmdValid ∧ t.resIllegal = s.resIllegal := by
  cases m with
  | idle h => exact absurd h hb
  | accepted h => exact absurd h hb
  | answeredInit _ _ _ _ _ e => rw [e, recordInit_eq]; exact ⟨rfl, rfl, rfl⟩
  | _ => rename_i e; rw [e]; exact ⟨rfl, rfl, rfl⟩

/-- Inside a command the status, the value and the revision are written by CB_WAIT's answer alone (R119). -/
theorem CoreMove.answer_cases (m : CoreMove s t) (hb : s.fsm ≠ .idle) :
    (t.resStatus = s.resStatus ∧ t.resValue = s.resValue ∧ t.revision = s.revision) ∨
    (s.fsm = .cbWait ∧ s.cmdOp = 0x1#4 ∧ t.resStatus.toNat ≤ 1 ∧ t.resValue = s.resValue) ∨
    (s.fsm = .cbWait ∧ s.cmdOp ≠ 0x1#4 ∧ (s.cmdOp ≠ 0x4#4 → t.resValue = s.resValue) ∧
      t.revision = s.revision) := by
  cases m with
  | idle h => exact absurd h hb
  | accepted h => exact absurd h hb
  | answeredInit _ _ h op _ e =>
    rw [e, recordInit_eq]
    refine .inr (.inl ⟨h, op, ?_, rfl⟩)
    simp only [goto_resStatus]
    split <;> decide
  | answered _ _ _ _ h _ op value e =>
    rw [e]
    exact .inr (.inr ⟨h, op, fun h4 => (value.resolve_left fun hv => h4 hv.1).2, rfl⟩)
  | _ => rename_i e; rw [e]; exact .inl ⟨rfl, rfl, rfl⟩

/-- Inside a command RES_COUNT is written in RD_UNLOCK alone (R157). -/
theorem CoreMove.resCount_cases (m : CoreMove s t) (hb : s.fsm ≠ .idle) :
    (s.fsm = .rdUnlock ∧ t.fsm = .pwrDown ∧ t.resCount = s.pixCnt) ∨
    ((t.fsm = s.fsm ∨ s.fsm ≠ .rdUnlock) ∧ t.resCount = s.resCount) := by
  cases m with
  | idle h => exact absurd h hb
  | accepted h => exact absurd h hb
  | rdUnlock h e => rw [e]; exact .inl ⟨h, rfl, rfl⟩
  | left _ hw e =>
    have h : s.fsm ≠ .rdUnlock := fun h => by simp [h, waitSuccessor] at hw
    rw [e]; exact .inr ⟨.inr h, rfl⟩
  | counted _ _ _ _ e => rw [e]; exact .inr ⟨.inl rfl, rfl⟩
  | held _ _ e => rw [e]; exact .inr ⟨.inl rfl, rfl⟩
  | answeredInit _ _ h _ _ e => simp [e, recordInit_eq, h]
  | _ => simp_all <;> rfl

/-- A core move with a word posted consumes it in IDLE, latching its opcode, and leaves it elsewhere (R99, R101). -/
theorem CoreMove.posted_cases (m : CoreMove s t) (hv : s.cmdValid = true) :
    (s.fsm = .idle ∧ t.cmdValid = false ∧ t.cmdOp = opOf s.cmdWord) ∨ (s.fsm ≠ .idle ∧ t.cmdValid = true) := by
  by_cases hi : s.fsm = .idle
  · rcases m.of_idle hi with ⟨hn, _⟩ | ⟨_, _, e⟩
    · simp [hv] at hn
    · rw [e, accept_posted _ _ _ _ hv]
      exact .inl ⟨hi, rfl, rfl⟩
  · obtain ⟨_, hkept, _⟩ := m.latches_kept hi
    exact .inr ⟨hi, hkept.trans hv⟩

end Sys2Proof.Machine
end

section
/-! PROOFS. The operands and tables that acceptance and INIT_BIND use. -/

namespace Sys2Proof.Machine

open Sys2Proof.Safety

/-- OP as a number (R80). -/
theorem opOf_eq_ofNat (w : CmdWord) : opOf w = BitVec.ofNat 4 w.toNat := by
  apply BitVec.eq_of_toNat_eq
  simp [opOf]

/-- The device address as a number (R86). -/
theorem devAddr_eq_ofNat (a : Byte) : devAddr a = BitVec.ofNat 8 (2 * (a.toNat % 128)) := by
  apply BitVec.eq_of_toNat_eq
  have happ : (devAddr a).toNat = _ := BitVec.toNat_append (a.extractLsb' 0 7) 0#1
  rw [happ]
  simp [Nat.shiftLeft_eq]
  omega

/-- Bit 0 of a device address is 0 (R86). -/
theorem devAddr_getLsbD_zero (a : Byte) : (devAddr a).getLsbD 0 = false := by
  rw [devAddr_eq_ofNat, BitVec.getLsbD_ofNat]
  simp

/-- RES_STATUS at acceptance meets R95's table. -/
theorem acceptStatus_table (op : Opcode) :
    (isCommand op = false → acceptStatus op = 0xFF) ∧ (op = 0x1#4 → (acceptStatus op).toNat ≤ 1) ∧
      (op = 0x2#4 ∨ op = 0x3#4 → acceptStatus op = 0x00) := by
  revert op; decide

/-- No body starts in a state of the readout or in PWR_DOWN (R100). -/
theorem dispatch_region (op : Opcode) : inPixelCycle (dispatch op) = false ∧ inPreamble (dispatch op) = false ∧
    dispatch op ≠ .rdUnlock ∧ dispatch op ≠ .pwrDown := by
  rcases dispatch_cases op with h | h | h <;> rw [h] <;> exact ⟨rfl, rfl, nofun, nofun⟩

/-- The states that need the lock's grant are among those that request it (R77). -/
theorem lockHeld_of_granted {f : Fsm} (h : inPixelCycle f = true ∨ f = .rdUnlock) : lockHeld f = true := by
  cases f <;> simp_all [inPixelCycle, lockHeld]

/-- A transfer has two bytes (R54). -/
theorem outstanding_le_two (f : Fsm) : outstanding f ≤ 2 := by
  cases f <;> decide

/-- The pixel-cycle states are those with codes 0x11 to 0x18 (R93). -/
theorem inPixelCycle_of_fsmCode {f : Fsm} (h : 0x11 ≤ (fsmCode f).toNat ∧ (fsmCode f).toNat ≤ 0x18) :
    inPixelCycle f = true := by
  revert h
  cases f <;> decide

end Sys2Proof.Machine
end

section
/-! PROOFS. The invariant of the block: at reset, at a clean launch, and over every step. A core move is the hold or the
acceptance in IDLE, or a move inside a command; the counters and the results are followed by lemmas of their own. -/

namespace Sys2Proof.Machine

open Sys2Proof.Safety

variable {s t : State}

theorem reset_blockInv : BlockInv State.reset := by constructor <;> decide

/-- A block reset meets the invariant whatever the buffer's words are (R182). -/
theorem resetCore_blockInv (hs : BlockInv s) : BlockInv (resetCore s) :=
  { reset_blockInv with granted := nofun, buffer := hs.buffer }

theorem hold_blockInv (hs : BlockInv s) : BlockInv (hold s) := { hs with respValid := nofun }

/-- The six clauses on levels, as one equation. -/
theorem blockInv_outputs_eq (hs : BlockInv s) : outputs s = levels s.fsm := by
  simp [outputs, lines, levels, hs.pd, hs.clear, hs.shutter, hs.read, hs.select, hs.lock]

/-- Acceptance starts a command in the state its results need (R99, R100). -/
theorem accept_blockInv (hs : BlockInv s) (hi : s.fsm = .idle) (hv : s.cmdValid = true) (op : Opcode) (a v : Byte)
    (e : Count32) (hc : op = 0x2#4 → s.pbEn = true ∧ s.pbRxth = true) : BlockInv (accept op a v e s) := by
  rw [accept_posted _ _ _ _ hv]
  obtain ⟨hpixel, hpreamble, hunlock, hdown⟩ := dispatch_region op
  have ho : outputs s = levels (dispatch op) := by
    rw [levels_dispatch, ← hi]
    exact blockInv_outputs_eq hs
  have hend : ¬ (op = 0x2#4 ∧ (dispatch op = .pwrDown ∨ dispatch op = .respond)) := by
    rintro ⟨rfl, h | h⟩ <;> cases h
  exact
    { hs with
      pd := congrArg (·.1.pd) ho
      shutter := congrArg (·.1.shutter) ho
      read := congrArg (·.1.read) ho
      select := congrArg (·.1.adcCsN) ho
      lock := congrArg (·.2) ho
      granted := by simp [hpixel, hunlock]
      pixel := by simp [hpixel]
      discard := by simp [hpixel]
      cleared := by simp [hpreamble]
      unlock := fun h => absurd h hunlock
      path := fun _ => onPath_dispatch op
      configured := fun _ h => (hc h).1
      resIllegal := fun _ => rfl
      resStatus := fun _ => acceptStatus_table op
      resValue := fun _ => ⟨fun h => if_pos h, fun h _ => if_neg h⟩
      resCount := fun _ => (if_neg hend).symm
      respValid := nofun }

/-- The clauses on DISC_CNT and PIX_CNT, over the four things a move can do to them (R54, R137, R150, R152). -/
theorem CoreMove.keeps_counters (m : CoreMove s t) (hb : s.fsm ≠ .idle) (hs : BlockInv s) :
    (t.discCnt.toNat ≤ 4 ∧ t.pixCnt.toNat ≤ 1024) ∧ (inPixelCycle t.fsm = true → t.pixCnt.toNat ≤ 1023) ∧
    (inPixelCycle t.fsm = true → t.discCnt.toNat < 4 → t.pixCnt = 0) ∧
    (inPreamble t.fsm = true → t.discCnt = 0 ∧ t.pixCnt = 0) ∧ (t.fsm = .rdUnlock → t.pixCnt.toNat = 1024) := by
  rcases m.counters_cases with
    ⟨hf, ht, hd, hp⟩ | ⟨hf, few, ht, hd, hp⟩ | ⟨hf, all, ht, hd, hp⟩ | ⟨hf | ⟨hhi, hcommit⟩, hd, hp⟩
  · simp [ht, hd, hp, inPixelCycle]
  · have hzero : s.pixCnt = 0 := hs.discard (by rw [hf]; rfl) few
    have hmod : t.discCnt.toNat = (s.discCnt.toNat + 1) % 8 := hd ▸ BitVec.toNat_add s.discCnt 1
    have hdisc : t.discCnt.toNat ≤ 4 := by omega
    simp [ht, hp, hzero, hdisc, inPreamble]
  · have hlast := hs.pixel (by rw [hf]; rfl)
    have hmod : t.pixCnt.toNat = (s.pixCnt.toNat + 1) % 2048 := hp ▸ BitVec.toNat_add s.pixCnt 1
    have hpix : t.pixCnt.toNat = s.pixCnt.toNat + 1 := by omega
    refine ⟨⟨hd ▸ hs.counts.1, by omega⟩, ?_⟩
    split at ht <;> simp [ht, hd, hpix, inPixelCycle, inPreamble] <;> omega
  · rw [hd, hp, hf]
    exact ⟨hs.counts, hs.pixel, hs.discard, hs.cleared, hs.unlock⟩
  · rw [hd, hp]
    obtain ⟨hunlock, hpreamble, hpixel⟩ := successors_region hhi hcommit _ (m.fsm_mem_successors hb)
    have hentry (h : s.fsm = .rdLockWait) : s.pixCnt = 0 := (hs.cleared (by rw [h]; rfl)).2
    exact ⟨hs.counts,
      fun h => (hpixel h).elim hs.pixel fun he => by simp [hentry he],
      fun h few => (hpixel h).elim (hs.discard · few) hentry,
      fun h => hs.cleared (hpreamble h), fun h => absurd h hunlock⟩

/-- The clauses on RES_STATUS and RES_VALUE, over the answers CB_WAIT can record (R95, R119). -/
theorem CoreMove.keeps_results (m : CoreMove s t) (hb : s.fsm ≠ .idle) (hs : BlockInv s) :
    ((isCommand t.cmdOp = false → t.resStatus = 0xFF) ∧ (t.cmdOp = 0x1#4 → t.resStatus.toNat ≤ 1) ∧
      (t.cmdOp = 0x2#4 ∨ t.cmdOp = 0x3#4 → t.resStatus = 0x00)) ∧
    (t.cmdOp = 0x3#4 → t.resValue = t.revision) ∧
    (t.cmdOp ≠ 0x3#4 → t.cmdOp ≠ 0x4#4 → t.resValue = 0x00) := by
  have hstatus := hs.resStatus hb
  have hvalue := hs.resValue hb
  rw [(m.latches_kept hb).1]
  rcases m.answer_cases hb with ⟨hst, hval, hrev⟩ | ⟨_, op, hst, hval⟩ | ⟨hf, op, hval, hrev⟩
  · rw [hst, hval, hrev]
    exact ⟨hstatus, hvalue⟩
  · rw [hval]
    simp_all [isCommand]
  · have hp : (isCommand s.cmdOp = true ∧ s.cmdOp ≠ 0x2#4) ∧ s.cmdOp ≠ 0x3#4 := by
      simpa [onPath, hf] using hs.path hb
    simp_all

/-- The clause on RES_COUNT: RD_UNLOCK sets it to 1024 on the way to PWR_DOWN (R157, R158). -/
theorem CoreMove.keeps_resCount (m : CoreMove s t) (hb : s.fsm ≠ .idle) (hi : t.fsm ≠ .idle) (hs : BlockInv s) :
    t.resCount.toNat = if t.cmdOp = 0x2#4 ∧ (t.fsm = .pwrDown ∨ t.fsm = .respond) then 1024 else 0 := by
  rw [(m.latches_kept hb).1]
  rcases m.resCount_cases hb with ⟨hf, ht, hc⟩ | ⟨hf | hf, hc⟩
  · have hop : s.cmdOp = 0x2#4 := by simpa [onPath, hf] using hs.path hb
    rw [hc, hs.unlock hf, if_pos ⟨hop, .inl ht⟩]
  · rw [hc, hs.resCount hb, hf]
  · simp only [hc, hs.resCount hb,
      successors_captureEnd (hs.path hb) hf _ (m.fsm_mem_successors hb) hi]

/-- The grant is kept while it is needed: a pixel cycle is entered under a grant, and no core move writes it (R142). -/
theorem CoreMove.keeps_grant (m : CoreMove s t) (hb : s.fsm ≠ .idle) (hs : BlockInv s)
    (h : inPixelCycle t.fsm = true ∨ t.fsm = .rdUnlock) : t.lockGnt = true := by
  obtain ⟨_, hkept, _⟩ := m.envCells_kept
  rw [hkept]
  rcases successors_locked _ (m.fsm_mem_successors hb) h with hf | hf
  · exact hs.granted (.inl hf)
  · rcases m.of_rdLockWait hf with e | hgnt
    · simp [e, hf, inPixelCycle] at h
    · exact hgnt

/-- A core move inside a command keeps the invariant. -/
theorem CoreMove.busy_keeps_blockInv (m : CoreMove s t) (hb : s.fsm ≠ .idle) (hs : BlockInv s) : BlockInv t := by
  have ho := m.outputs_eq (blockInv_outputs_eq hs)
  obtain ⟨hcounts, hpixel, hdiscard, hcleared, hunlock⟩ := m.keeps_counters hb hs
  obtain ⟨hstatus, hvalue⟩ := m.keeps_results hb hs
  obtain ⟨hop, _, hillegal⟩ := m.latches_kept hb
  exact
    { pd := congrArg (·.1.pd) ho
      clear := ⟨congrArg (·.1.clrData) ho, congrArg (·.1.clrPix) ho⟩
      shutter := congrArg (·.1.shutter) ho
      read := congrArg (·.1.read) ho
      select := congrArg (·.1.adcCsN) ho
      lock := congrArg (·.2) ho
      granted := m.keeps_grant hb hs
      counts := hcounts
      pixel := hpixel
      discard := hdiscard
      cleared := hcleared
      unlock := hunlock
      prescale := m.dlyPre_lt hs.prescale
      path := hop ▸ successors_onPath (hs.path hb) _ (m.fsm_mem_successors hb)
      configBits := by
        rcases m.configBits_cases with ⟨hen, hth⟩ | ⟨_, hen, hth⟩ <;> rw [hen, hth]
        exact hs.configBits
      configured := fun _ h => by
        rcases m.configBits_cases with ⟨hen, _⟩ | ⟨_, hen, _⟩ <;> rw [hen]
        exact hs.configured hb (hop ▸ h)
      devAddr := by
        rcases m.cbDevaddr_cases with h | ⟨_, h⟩ <;> rw [h]
        · exact hs.devAddr
        · exact devAddr_getLsbD_zero _
      resIllegal := fun _ => by rw [hillegal, hop]; exact hs.resIllegal hb
      resStatus := fun _ => hstatus
      resValue := fun _ => hvalue
      resCount := fun hi => m.keeps_resCount hb hi hs
      respCount := by
        rcases m.response_cases with ⟨e, _⟩ | ⟨_, h⟩
        · rw [e, present_respCount, hs.resCount hb]
          split <;> simp
        · rw [h]
          exact hs.respCount
      respValid := fun h => by
        rcases m.response_cases with ⟨e, _⟩ | ⟨hn, _⟩
        · rw [e, present_fsm]
        · simp [hn] at h
      buffer := m.pixbuf_wf hs.buffer }

/-- Every core move keeps the invariant. -/
theorem CoreMove.keeps_blockInv (m : CoreMove s t) (hs : BlockInv s) : BlockInv t := by
  by_cases hi : s.fsm = .idle
  · rcases m.of_idle hi with ⟨_, rfl⟩ | ⟨hv, hc, rfl⟩
    · exact hold_blockInv hs
    · exact accept_blockInv hs hi hv _ _ _ _ hc
  · exact m.busy_keeps_blockInv hi hs

/-- An agent's step writes nothing the invariant speaks of but the grant, which ARBITER keeps while it is requested
(R48, R51). -/
theorem envStep_keeps_blockInv {e : EnvStep} (hs : BlockInv s) (h : envStep e s = .next t) : BlockInv t := by
  obtain ⟨hframe, _, _, _, hgrant⟩ := envStep_effects h
  rw [hframe]
  exact { hs with granted := fun hf => hgrant (hs.lock.trans (lockHeld_of_granted hf)) (hs.granted hf) }

end Sys2Proof.Machine
end

section
/-! PROOFS. The handshakes with CBUS and PIXBUS, over every step taken out of reset. -/

namespace Sys2Proof.Machine

open Sys2Proof.Safety

variable {s t : State}

theorem reset_cleanHandshakes : CleanHandshakes State.reset := by constructor <;> decide

/-- A move outside CB_WAIT that writes no handshake cell keeps the handshakes. -/
theorem cleanHandshakes_moved (hs : CleanHandshakes s) (hf : s.fsm ≠ .cbWait) (ht : t.fsm ≠ .cbWait)
    (ho : outstanding s.fsm = outstanding t.fsm)
    (hcells : t.cbLate = s.cbLate ∧ t.cbReq = s.cbReq ∧ t.cbRsp = s.cbRsp ∧ t.pbTxpend = s.pbTxpend ∧
      t.pbRxq = s.pbRxq) : CleanHandshakes t := by
  obtain ⟨hlate, hreq, hrsp, htx, hrx⟩ := hcells
  exact
    { late := hlate.trans hs.late
      waiting := fun h => absurd h ht
      quiet := fun _ => by rw [hreq, hrsp]; exact hs.quiet hf
      bytes := by rw [htx, hrx, ← ho]; exact hs.bytes }

/-- CB_WAIT's move on an answer leaves no transaction: the request was cleared when the answer came (R47, R119). -/
theorem cleanHandshakes_answered {answer : Byte × Byte} (hs : CleanHandshakes s) (hf : s.fsm = .cbWait)
    (hr : s.cbRsp = some answer) (ht : t.fsm = .pwrDown)
    (hcells : t.cbLate = s.cbLate ∧ t.cbReq = s.cbReq ∧ t.cbRsp = none ∧ t.pbTxpend = s.pbTxpend ∧
      t.pbRxq = s.pbRxq) : CleanHandshakes t := by
  obtain ⟨hlate, hreq, hrsp, htx, hrx⟩ := hcells
  have hclear : s.cbReq = false := by rw [hs.waiting hf, hr]; rfl
  exact
    { late := hlate.trans hs.late
      waiting := fun h => by simp [ht] at h
      quiet := fun _ => ⟨hreq.trans hclear, hrsp⟩
      bytes := by rw [htx, hrx, hs.bytes, hf, ht]; rfl }

/-- Every core move keeps the handshakes: CB_ISSUE posts into an empty mailbox, CB_WAIT takes the one answer,
PX_XFER_START queues two bytes and each of the two pops reads one. -/
theorem CoreMove.keeps_cleanHandshakes (m : CoreMove s t) (hs : CleanHandshakes s) : CleanHandshakes t := by
  have hbytes := hs.bytes
  cases m with
  | idle _ _ e => rw [e]; exact { hs with }
  | counted _ _ _ _ e => rw [e]; exact { hs with }
  | held _ _ e => rw [e]; exact { hs with }
  | accepted h posted _ e =>
    rw [e, accept_posted _ _ _ _ posted]
    rcases dispatch_cases (opOf s.cmdWord) with hd | hd | hd <;> rw [hd] <;>
      exact cleanHandshakes_moved hs (by simp [h]) nofun (by rw [h]; rfl) ⟨rfl, rfl, rfl, rfl, rfl⟩
  | left _ hw e =>
    rw [e]
    rcases waitSuccessor_cases hw with ⟨h, rfl, _⟩ | ⟨h, rfl, _⟩ | ⟨h, rfl⟩ | ⟨h, rfl⟩ | ⟨h, rfl⟩ <;>
      exact cleanHandshakes_moved hs (by simp [h]) nofun (by rw [h]; rfl) ⟨rfl, rfl, rfl, rfl, rfl⟩
  | issued _ _ _ _ _ h e =>
    rw [e]
    have hempty : s.cbRsp = none := (hs.quiet (by simp [h])).2
    rw [h] at hbytes
    exact
      { late := hs.late
        waiting := fun _ => by simp [cbIssue, hempty]
        quiet := fun hn => absurd rfl hn
        bytes := hbytes }
  | answeredInit _ _ h _ rsp e =>
    rw [e, recordInit_eq]
    exact cleanHandshakes_answered hs h rsp rfl ⟨rfl, rfl, rfl, rfl, rfl⟩
  | answered _ _ _ _ h rsp _ _ e =>
    rw [e]
    exact cleanHandshakes_answered hs h rsp rfl ⟨rfl, rfl, rfl, rfl, rfl⟩
  | pxXferStart h e =>
    rw [e]
    rw [h] at hbytes
    have hqueued : s.pbTxpend + 2 + s.pbRxq.length = 0 + 2 := by rw [Nat.add_right_comm, hbytes]; rfl
    exact { late := hs.late, waiting := nofun, quiet := fun _ => hs.quiet (by simp [h]), bytes := hqueued }
  | popMsb _ _ h q e =>
    rw [e]
    rw [q, h] at hbytes
    exact
      { late := hs.late, waiting := nofun, quiet := fun _ => hs.quiet (by simp [h])
        bytes := Nat.succ.inj hbytes }
  | popLsb _ _ h q e =>
    rw [e]
    rw [q, h] at hbytes
    exact
      { late := hs.late, waiting := nofun, quiet := fun _ => hs.quiet (by simp [h])
        bytes := Nat.succ.inj hbytes }
  | stored h _ e =>
    rw [e]
    split <;> exact cleanHandshakes_moved hs (by simp [h]) nofun (by rw [h]; rfl) ⟨rfl, rfl, rfl, rfl, rfl⟩
  | ready h _ e =>
    rw [e]
    exact cleanHandshakes_moved hs (by simp [h]) nofun (by rw [h]; rfl) ⟨rfl, rfl, rfl, rfl, rfl⟩
  | granted h _ e =>
    rw [e]
    exact cleanHandshakes_moved hs (by simp [h]) nofun (by rw [h]; rfl) ⟨rfl, rfl, rfl, rfl, rfl⟩
  | discarded h _ e =>
    rw [e]
    exact cleanHandshakes_moved hs (by simp [h]) nofun (by rw [h]; rfl) ⟨rfl, rfl, rfl, rfl, rfl⟩
  | _ =>
    rename_i h e
    rw [e]
    exact cleanHandshakes_moved hs (by simp [h]) nofun (by rw [h]; rfl) ⟨rfl, rfl, rfl, rfl, rfl⟩

/-- Every agent's step keeps the handshakes: PIXBUS turns a queued byte into a received one, CBUS answers in CB_WAIT alone,
and no removed request is there to be answered late. -/
theorem envStep_keeps_cleanHandshakes {e : EnvStep} (hs : CleanHandshakes s) (h : envStep e s = .next t) :
    CleanHandshakes t := by
  rcases envStep_cases h with ⟨_, _, _, rfl⟩ | ⟨_, rfl⟩ | ⟨_, rfl⟩ | ⟨_, _, rfl⟩ | ⟨_, _, rfl⟩ |
    ⟨b, _, _, _, pending, rfl⟩ | ⟨_, _, _, req, _, rfl⟩ | ⟨_, _, _, late, _, rfl⟩ | ⟨_, _, _, rfl⟩ | ⟨_, _, _, rfl⟩
  · exact { hs with }
  · exact hs
  · exact hs
  · exact { hs with }
  · exact { hs with }
  · have hclocked : s.pbTxpend - 1 + (s.pbRxq ++ [b]).length = s.pbTxpend + s.pbRxq.length := by
      rw [List.length_append, List.length_singleton]
      omega
    exact { hs with bytes := hclocked.trans hs.bytes }
  · have hf : s.fsm = .cbWait := by
      by_contra hf
      simp [(hs.quiet hf).1] at req
    exact { hs with waiting := fun _ => rfl, quiet := fun hn => absurd hf hn }
  · exact absurd (hs.late.symm.trans late) nofun
  · exact { hs with }
  · exact { hs with }

end Sys2Proof.Machine
end

section
/-! PROOFS. The statements about the state: the invariants, the handle, the mailbox, the status bits and the agents. -/

namespace Sys2Proof.Proofs

open Sys2Proof.Machine Sys2Proof.Safety

/-- Settles O37, by the three kinds of step: a block reset, a core move, an agent's step. -/
theorem stepKeepsBlockInv : Obligations.StepKeepsBlockInv := by
  intro s t hs h
  obtain ⟨rest, h⟩ := step_cases h
  have hs' : BlockInv { s with schedule := rest } := { hs with }
  rcases h with ⟨_, rfl⟩ | ⟨_, m⟩ | ⟨e, henv⟩
  · exact resetCore_blockInv hs'
  · exact m.keeps_blockInv hs'
  · exact envStep_keeps_blockInv hs' henv

/-- Settles O38, by the core moves and the agents' steps. -/
theorem stepKeepsCleanHandshakes : Obligations.StepKeepsCleanHandshakes := by
  intro s t hr hs h
  obtain ⟨rest, h⟩ := step_cases h
  have hs' : CleanHandshakes { s with schedule := rest } := { hs with }
  rcases h with ⟨hreset, _⟩ | ⟨_, m⟩ | ⟨e, henv⟩
  · simp [hr] at hreset
  · exact m.keeps_cleanHandshakes hs'
  · exact envStep_keeps_cleanHandshakes hs' henv

/-- Settles O36: both invariants speak of no cell that a clean launch leaves open but the buffer, which it asks to be in
its canonical form. -/
theorem cleanLaunchMeetsInvariants : Obligations.CleanLaunchMeetsInvariants := by
  intro s ⟨e, hm⟩
  rw [e]
  exact ⟨{ reset_blockInv with buffer := hm }, { reset_cleanHandshakes with }⟩

/-- Settles O47, by the writers of the three parts of the handle; no agent writes them. -/
theorem handleWrittenOnlyByInit : Obligations.HandleWrittenOnlyByInit := by
  intro s t hr h
  obtain ⟨rest, ⟨hreset, _⟩ | ⟨_, m⟩ | ⟨e, henv⟩⟩ := step_cases h
  · simp [hr] at hreset
  · rw [← devAddr_eq_ofNat]
    exact ⟨m.cbDevaddr_cases.resolve_left, m.revision_cases.resolve_left,
      fun hn => m.configBits_cases.resolve_left fun ⟨hen, hth⟩ => hn.elim (· hen) (· hth)⟩
  · rw [(envStep_effects henv).1]
    exact ⟨fun hn => absurd rfl hn, fun hn => absurd rfl hn, fun hn => hn.elim (absurd rfl) (absurd rfl)⟩

/-- Settles O52: a reset and the agents leave a posted word, and a core move consumes it in IDLE alone. -/
theorem postedWordWaitsForIdle : Obligations.PostedWordWaitsForIdle := by
  intro s t hv h
  obtain ⟨rest, ⟨_, rfl⟩ | ⟨hr, m⟩ | ⟨e, henv⟩⟩ := step_cases h
  · exact ⟨rfl, fun hn => by simp [hv] at hn⟩
  · obtain ⟨hword, _⟩ := m.envCells_kept
    refine ⟨hword, fun hn => ?_⟩
    rcases m.posted_cases hv with ⟨hi, _, hop⟩ | ⟨_, hkept⟩
    · exact ⟨hi, hr, hop.trans (opOf_eq_ofNat _)⟩
    · simp [hkept] at hn
  · obtain ⟨_, _, hpost, _, _⟩ := envStep_effects henv
    obtain ⟨hkept, hword⟩ := hpost hv
    exact ⟨hword, fun hn => by simp [hkept] at hn⟩

/-- Settles O54: the bits by their definitions, the consumption of a posted word by the core moves, and its positive half
by the acceptance in IDLE. -/
theorem statusBitsTellState : Obligations.StatusBitsTellState := by
  intro s
  refine ⟨by simp [busy], by simp [cmdReady], by simp [pbRxReady], rfl, fun t hr hv h => ?_,
    fun hr hv hready hc => ?_⟩
  · rcases (coreStep_move hr h).posted_cases hv with ⟨hi, hv', _⟩ | ⟨hi, hv'⟩ <;> simp [cmdReady, hi, hv']
  · have hi : s.fsm = .idle := by simpa [cmdReady] using hready
    have hmod (h : opOf s.cmdWord = 0x2#4) : s.cmdWord.toNat % 16 = 2 := by
      simpa [opOf] using congrArg BitVec.toNat h
    refine ⟨_, coreStep_idle_accepts hr hi hv fun h => hc (hmod h), ?_⟩
    rw [accept_posted _ _ _ _ hv]
    exact ⟨rfl, opOf_eq_ofNat _⟩

/-- Settles O55, by the effects of an agent's step. -/
theorem environmentLeavesCoreRegisters : Obligations.EnvironmentLeavesCoreRegisters := by
  intro e s t h
  obtain ⟨hframe, hreq, hpost, htx, _⟩ := envStep_effects h
  exact ⟨hframe, hreq, fun hv => (hpost hv).1, htx⟩

/-- Settles O35: the state after reset is one literal state. -/
theorem resetMeetsInvariants : Obligations.ResetMeetsInvariants :=
  ⟨⟨rfl, Memory.wf_reset⟩, reset_blockInv, reset_cleanHandshakes⟩

/-- Settles O42: the levels of IDLE, and the handshakes outside CB_WAIT and outside a transfer. -/
theorem idleInvariant : Obligations.IdleInvariant := by
  intro s hs hc hi
  have ho := blockInv_outputs_eq hs
  rw [hi] at ho
  obtain ⟨hreq, hrsp⟩ := hc.quiet (by simp [hi])
  have hbytes : s.pbTxpend + s.pbRxq.length = 0 := by rw [hc.bytes, hi]; rfl
  obtain ⟨htx, hrx⟩ := Nat.add_eq_zero_iff.mp hbytes
  exact ⟨congrArg Prod.fst ho, congrArg Prod.snd ho, hreq, hrsp, htx, List.length_eq_zero_iff.mp hrx⟩

/-- Settles O43: the ranges are clauses of the invariants, the pixel-cycle states being codes 0x11 to 0x18. -/
theorem rangeInvariants : Obligations.RangeInvariants := by
  intro s hs hc
  obtain ⟨hdisc, hpix⟩ := hs.counts
  have htx : s.pbTxpend ≤ 2 := (Nat.le_add_right _ _).trans (hc.bytes.trans_le (outstanding_le_two _))
  exact ⟨hdisc, hpix, htx, hs.prescale, fun h => hs.pixel (inPixelCycle_of_fsmCode h)⟩

/-- Settles O53, agent by agent: each rule is one test of its cells. -/
theorem environmentStepsAsOwned : Obligations.EnvironmentStepsAsOwned := by
  intro s
  have hfull : s.cbRsp ≠ none → s.cbRsp.isNone = false := by cases s.cbRsp <;> simp
  refine ⟨fun w hv => ?_, fun w hv => ?_, fun _ => rfl, rfl, fun _ => rfl, fun _ => rfl,
    fun b hen hth hp => ?_, fun b hn => ?_, fun x y hreq hrsp => ?_, fun x y hn => ?_,
    fun x y hlate hrsp => ?_, fun x y hn => ?_, fun hreq hgnt => ?_, fun hreq hgnt => ?_, fun hn => ?_, fun hn => ?_⟩
  · simp [envStep, hostPost, hv]
  · simp [envStep, hostPost, hv]
  · simp [envStep, pixbusByte, hen, hth, hp]
  · rcases hn with hn | hn | hn <;> simp [envStep, pixbusByte, hn]
  · simp [envStep, cbusAnswer, hreq, hrsp]
  · rcases hn with hn | hn
    · simp [envStep, cbusAnswer, hn]
    · simp [envStep, cbusAnswer, hfull hn]
  · simp [envStep, cbusLateAnswer, hlate, hrsp]
  · rcases hn with hn | hn
    · simp [envStep, cbusLateAnswer, hn]
    · simp [envStep, cbusLateAnswer, hfull hn]
  · simp [envStep, arbiterGrant, hreq, hgnt]
  · simp [envStep, arbiterRelease, hreq, hgnt]
  · rcases hn with hn | hn <;> simp [envStep, arbiterGrant, hn]
  · rcases hn with hn | hn <;> simp [envStep, arbiterRelease, hn]

end Sys2Proof.Proofs
end

section
/-! PROOFS. PIXBUF: what PX_COMMIT stores and where, and that PX_COMMIT alone writes. -/

namespace Sys2Proof.Machine

variable {s t : State}

/-- The index of a store as a number (R59). -/
theorem pixIndex_eq_ofNat (pixCnt : BitVec 11) : pixIndex pixCnt = BitVec.ofNat 10 pixCnt.toNat := by
  apply BitVec.eq_of_toNat_eq
  simp [pixIndex]

/-- A sample as a number: LSB's seven bits lie below MSB's eight (R154). -/
theorem sample16_toNat (msb lsb : Byte) : (sample16 msb lsb).toNat = msb.toNat * 128 + lsb.toNat / 2 := by
  have hbelow : lsb.toNat / 2 < 2 ^ 7 := by omega
  have hmsb : msb.toNat <<< 7 % 2 ^ 15 = msb.toNat <<< 7 := by rw [Nat.shiftLeft_eq]; omega
  have hlsb : lsb.toNat / 2 % 2 ^ 15 = lsb.toNat / 2 := by omega
  have hfit : (msb.toNat * 128 + lsb.toNat / 2) % 2 ^ 16 = msb.toNat * 128 + lsb.toNat / 2 := by omega
  rw [sample16, BitVec.toNat_setWidth, BitVec.toNat_or, BitVec.toNat_shiftLeft, BitVec.toNat_setWidth,
    BitVec.toNat_setWidth, BitVec.toNat_ushiftRight, Nat.shiftRight_eq_div_pow, Nat.pow_one,
    Nat.mod_eq_of_lt (by omega : msb.toNat < 2 ^ 15), hmsb, hlsb, ← Nat.shiftLeft_add_eq_or_of_lt hbelow,
    Nat.shiftLeft_eq, hfit]

/-- The word stored (R154). -/
theorem sample16_eq_ofNat (msb lsb : Byte) :
    sample16 msb lsb = BitVec.ofNat 16 (msb.toNat * 128 + lsb.toNat / 2) := by
  rw [← sample16_toNat, BitVec.ofNat_toNat, BitVec.setWidth_eq]

/-- A sample has 15 bits (R65, R155). -/
theorem sample16_getLsbD_fifteen (msb lsb : Byte) : (sample16 msb lsb).getLsbD 15 = false := by
  simp [sample16]

/-- Every command's step in PX_COMMIT is the state's rule (R96 (b), R150). -/
theorem exec_pxCommit (i : Instr) (h : s.fsm = .pxCommit) : exec i s = .next (pxCommit s) := by
  rw [exec_eq_stateRule i (by simp [h]) (by simp [h]) (by simp [h]) (by simp [h])]
  simp [stateRule, h]

/-- The store of PX_COMMIT: the sample at index PIX_CNT[9:0], and its write event (R59, R150). -/
def StoresSample (s t : State) : Prop :=
  t.pixbuf = Memory.write s.pixbuf (pixIndex s.pixCnt).toNat (sample16 s.msb s.lsb) ∧
  t.history = .pixWrite (pixIndex s.pixCnt) (sample16 s.msb s.lsb) :: s.history

/-- A core move stores in PX_COMMIT, or leaves the buffer and records at most a response (R59, R74, R111). -/
theorem CoreMove.pixbuf_cases (m : CoreMove s t) :
    (s.fsm = .pxCommit ∧ 4 ≤ s.discCnt.toNat ∧ StoresSample s t) ∨
    (t.pixbuf = s.pixbuf ∧ (t.history = s.history ∨
      t.history = .response s.cmdOp s.resStatus s.resValue s.resCount s.resIllegal :: s.history)) := by
  cases m with
  | accepted _ posted _ e => rw [e, accept_posted _ _ _ _ posted]; exact .inr ⟨rfl, .inl rfl⟩
  | answeredInit _ _ _ _ _ e => rw [e, recordInit_eq]; exact .inr ⟨rfl, .inl rfl⟩
  | stored h all e => rw [e]; exact .inl ⟨h, Nat.le_of_not_lt all, rfl, rfl⟩
  | respond _ e => rw [e]; exact .inr ⟨rfl, .inr rfl⟩
  | _ => rename_i e; rw [e]; exact .inr ⟨rfl, .inl rfl⟩

/-- A step of any agent writes the buffer in PX_COMMIT alone, out of reset and after four discards (R59, R74, R150). -/
theorem step_pixbuf_cases (h : step s = .next t) :
    (s.fsm = .pxCommit ∧ s.rst = false ∧ 4 ≤ s.discCnt.toNat ∧ StoresSample s t) ∨
    (t.pixbuf = s.pixbuf ∧ (t.history = s.history ∨
      t.history = .response s.cmdOp s.resStatus s.resValue s.resCount s.resIllegal :: s.history)) := by
  obtain ⟨rest, ⟨_, rfl⟩ | ⟨hr, m⟩ | ⟨e, henv⟩⟩ := step_cases h
  · exact .inr ⟨rfl, .inl rfl⟩
  · exact m.pixbuf_cases.imp (fun ⟨hf, hd, hs⟩ => ⟨hf, hr, hd, hs⟩) id
  · rw [(envStep_effects henv).1]
    exact .inr ⟨rfl, .inl rfl⟩

end Sys2Proof.Machine
end

section
/-! PROOFS. The buffer is never read: with another buffer every rule, of the block or of an agent, answers the same. -/

namespace Sys2Proof.Machine

/-- What a step answers, with the buffer of its next state left out. -/
def forgetBuffer : Result → Result
  | .next t => .next { t with pixbuf := [] }
  | .fault f => .fault f
  | .refused r => .refused r

/-- The state with another buffer. -/
def withBuffer (m : List (Nat × PixWord)) (s : State) : State := { s with pixbuf := m }

theorem withBuffer_fsm (m : List (Nat × PixWord)) (s : State) : (withBuffer m s).fsm = s.fsm := rfl

/-- A rule reads nothing of PIXBUF: with another buffer it answers the same but for the buffer (R60). -/
def IgnoresBuffer (rule : State → Result) : Prop :=
  ∀ (m : List (Nat × PixWord)) (s : State), forgetBuffer (rule (withBuffer m s)) = forgetBuffer (rule s)

/-- A rule that branches on a test of anything but the buffer, between two rules that ignore it. -/
theorem IgnoresBuffer.ite {c : State → Prop} [DecidablePred c] {a b : State → Result}
    (hc : ∀ m s, c (withBuffer m s) ↔ c s) (ha : IgnoresBuffer a) (hb : IgnoresBuffer b) :
    IgnoresBuffer fun s => if c s then a s else b s := by
  intro m s
  by_cases h : c s
  · simpa only [if_pos h, if_pos ((hc m s).mpr h)] using ha m s
  · simpa only [if_neg h, if_neg (mt (hc m s).mp h)] using hb m s

theorem eq_next_of_forgetBuffer {o : Result} {t : State} (h : forgetBuffer o = forgetBuffer (.next t)) :
    ∃ t', o = .next t' ∧ { t' with pixbuf := t.pixbuf } = t := by
  cases o with
  | next t' =>
    have he : { t' with pixbuf := [] } = { t with pixbuf := [] } := Host.Outcome.next.inj h
    exact ⟨t', rfl, congrArg (fun u : State => { u with pixbuf := t.pixbuf }) he⟩
  | fault f => cases h
  | refused r => cases h

theorem eq_fault_of_forgetBuffer {o : Result} {f : Fault} (h : forgetBuffer o = .fault f) : o = .fault f := by
  cases o <;> cases h
  rfl

theorem eq_refused_of_forgetBuffer {o : Result} {r : Refusal} (h : forgetBuffer o = .refused r) :
    o = .refused r := by
  cases o <;> cases h
  rfl

theorem wait_ignoresBuffer (n : Fsm) : IgnoresBuffer fun s => .next (wait n s) := by
  intro m s
  dsimp only [wait, withBuffer]
  split
  · rfl
  · split <;> rfl

theorem accept_ignoresBuffer (op : Opcode) (a v : Byte) (e : Count32) :
    IgnoresBuffer fun s => .next (accept op a v e s) := by
  intro m s
  dsimp only [accept, withBuffer]
  split <;> rfl

/-- CB_WAIT reads nothing of the buffer where the command's record leaves it alone (R119). -/
theorem cbWait_ignoresBuffer {record : Byte → Byte → State → State}
    (h : ∀ x y m s, record x y (withBuffer m s) = withBuffer m (record x y s)) :
    IgnoresBuffer fun s => .next (cbWait record s) := by
  intro m s
  rcases cbWait_cases record s with ⟨hr, e⟩ | ⟨x, y, hr, e⟩ <;> dsimp only <;> rw [e]
  · rw [cbWait_none record (s := withBuffer m s) hr]
    rfl
  · rw [cbWait_some record (s := withBuffer m s) hr]
    exact congrArg (fun u => forgetBuffer (.next (goto .pwrDown u))) (h x y m { s with cbRsp := none })
      |>.trans rfl

theorem recordInit_withBuffer (status rdata : Byte) (m : List (Nat × PixWord)) (s : State) :
    recordInit status rdata (withBuffer m s) = withBuffer m (recordInit status rdata s) := by
  rw [recordInit_eq, recordInit_eq]
  rfl

theorem rxPop_withBuffer (m : List (Nat × PixWord)) (s : State) :
    rxPop (withBuffer m s) = (rxPop s).map fun p => (p.1, withBuffer m p.2) := by
  cases q : s.pbRxq with
  | nil => rw [rxPop_nil q, rxPop_nil (s := withBuffer m s) q]; rfl
  | cons b rest => rw [rxPop_cons q, rxPop_cons (s := withBuffer m s) q]; rfl

/-- The rules that no command decides: those that branch do so on the timer, an input, the queue or a counter. -/
theorem stateRule_ignoresBuffer : IgnoresBuffer stateRule := by
  intro m s
  simp only [stateRule, withBuffer_fsm]
  cases s.fsm with
  | puWait =>
    exact IgnoresBuffer.ite (c := fun s => s.dlyUs = 0) (a := fun _ => .fault .puWaitNoBody) (fun _ _ => .rfl)
      (fun _ _ => rfl) (wait_ignoresBuffer _) m s
  | cbWait => exact cbWait_ignoresBuffer (fun _ _ _ _ => rfl) m s
  | expHold | rdStrobeWait | rdSettle => exact wait_ignoresBuffer _ m s
  | expWaitDrdy => dsimp only [expWaitDrdy, withBuffer]; split <;> rfl
  | rdLockWait => dsimp only [rdLockWait, withBuffer]; split <;> rfl
  | pxWaitMsb => simp only [pxWaitMsb, rxPop_withBuffer]; cases rxPop s <;> rfl
  | pxWaitLsb => simp only [pxWaitLsb, rxPop_withBuffer]; cases rxPop s <;> rfl
  | pxCommit => dsimp only [pxCommit, withBuffer]; split <;> rfl
  | _ => rfl

/-- The states that a command decides, by command. -/
theorem exec_ignoresBuffer (i : Instr) : IgnoresBuffer (exec i) := by
  intro m s
  cases i with
  | init a v e =>
    dsimp only [exec, execInit, withBuffer_fsm]
    split
    · exact accept_ignoresBuffer _ a v e m s
    · exact wait_ignoresBuffer _ m s
    · rfl
    · exact cbWait_ignoresBuffer recordInit_withBuffer m s
    · exact stateRule_ignoresBuffer m s
  | capture a v e =>
    dsimp only [exec, execCapture, withBuffer_fsm]
    split
    · exact IgnoresBuffer.ite (c := fun s => s.cmdValid && !(s.pbEn && s.pbRxth))
        (a := fun _ => .refused .captureUnconfigured) (fun _ _ => .rfl) (fun _ _ => rfl)
        (accept_ignoresBuffer _ a v e) m s
    · exact wait_ignoresBuffer _ m s
    · exact stateRule_ignoresBuffer m s
  | rdreg a v e | wrreg a v e | reset a v e =>
    dsimp only [exec, execRdreg, execWrreg, execReset, withBuffer_fsm]
    split
    · exact accept_ignoresBuffer _ a v e m s
    · exact wait_ignoresBuffer _ m s
    · rfl
    · exact cbWait_ignoresBuffer (fun _ _ _ _ => rfl) m s
    · exact stateRule_ignoresBuffer m s
  | getrev a v e | illegalZero a v e | illegalSeven a v e | illegalHigh op a v e =>
    dsimp only [exec, execGetrev, execIllegalZero, execIllegalSeven, execIllegalHigh, withBuffer_fsm]
    split
    · exact accept_ignoresBuffer _ a v e m s
    · exact stateRule_ignoresBuffer m s

/-- The block reset keeps the buffer, and the command of a core step is latched or posted (R78, R183). -/
theorem coreStep_ignoresBuffer : IgnoresBuffer coreStep := by
  intro m s
  have hcommand : currentCommand (withBuffer m s) = currentCommand s := rfl
  by_cases hr : s.rst
  · rw [coreStep_rst hr, coreStep_rst (s := withBuffer m s) hr]
    rfl
  · rw [coreStep, coreStep, if_neg hr, if_neg (show ¬(withBuffer m s).rst = true from hr), hcommand]
    cases currentCommand s with
    | some i => exact exec_ignoresBuffer i m s
    | none => rfl

/-- The agents' tests are of their own cells (R43, R47, R48). -/
theorem envStep_ignoresBuffer (e : EnvStep) : IgnoresBuffer (envStep e) := by
  cases e with
  | hostReadPix | hostReadRegs | hostRst | sensor => exact fun _ _ => rfl
  | hostPost | pixbus | cbus | cbusLate | grant | release =>
    exact IgnoresBuffer.ite (fun _ _ => .rfl) (fun _ _ => rfl) fun _ _ => rfl

theorem step_ignoresBuffer : IgnoresBuffer step := by
  intro m s
  match hs : s.schedule with
  | [] =>
    rw [step_empty hs, step_empty (s := withBuffer m s) hs]
    exact coreStep_ignoresBuffer m s
  | .core :: rest =>
    rw [step_core hs, step_core (s := withBuffer m s) hs]
    exact coreStep_ignoresBuffer m { s with schedule := rest }
  | .env e :: rest =>
    rw [step_env hs, step_env (s := withBuffer m s) hs]
    exact envStep_ignoresBuffer e m { s with schedule := rest }

end Sys2Proof.Machine
end

section
/-! PROOFS. The statements about PIXBUF. -/

namespace Sys2Proof.Proofs

open Sys2Proof.Machine

/-- Settles O23: the two branches of PX_COMMIT, and a read of the buffer after the write. -/
theorem commitDiscardsOrStores : Obligations.CommitDiscardsOrStores := by
  intro i s h
  rw [exec_pxCommit i h]
  refine ⟨fun hd => by rw [pxCommit_discard hd]; rfl, fun hd => ?_⟩
  rw [pxCommit_store (Nat.not_lt.mpr hd), ← pixIndex_eq_ofNat, ← sample16_eq_ofNat]
  intro k w
  have hsame := Memory.read_write_same s.pixbuf k.toNat w
  have hother (j : Nat) (hj : j ≠ k.toNat) := Memory.read_write_other s.pixbuf w hj
  refine ⟨_, rfl, rfl, hsame, ?_, hother, fun j hj => ?_, memWrite_wf k w⟩
  · exact congrArg (fun o : Option PixWord => o.getD _) hsame
  · exact congrArg (fun o : Option PixWord => o.getD _) (hother j.toNat fun hn => hj (BitVec.eq_of_toNat_eq hn))

/-- Settles O45: a step writes one sample or nothing, and records a write event with it alone; a word of the buffer is
then the sample or an old one. -/
theorem storedWordsKeepBitFifteenClear : Obligations.StoredWordsKeepBitFifteenClear := by
  intro s t h
  have hclear := sample16_getLsbD_fifteen s.msb s.lsb
  rcases step_pixbuf_cases h with ⟨_, _, _, hbuf, hhist⟩ | ⟨hbuf, hhist⟩
  · rw [hbuf, hhist]
    refine ⟨.inr ⟨_, rfl, fun i w he => ?_⟩, fun i w hnew hold => ?_, fun hs p hp => ?_⟩
    · cases he
      exact hclear
    · by_cases hi : i = (pixIndex s.pixCnt).toNat
      · rw [hi, Memory.read_write_same] at hnew
        cases hnew
        exact hclear
      · rw [Memory.read_write_other _ _ hi] at hnew
        exact absurd hnew hold
    · rcases Memory.mem_write _ _ _ _ hp with rfl | hp
      · exact hclear
      · exact hs p hp
  · rw [hbuf]
    exact ⟨hhist.imp id fun hh => ⟨_, hh, by simp⟩, fun i w hnew hold => absurd hnew hold, id⟩

/-- Settles O48, by what a step can write to the buffer and where. -/
theorem bufferWrittenOnlyByCommit : Obligations.BufferWrittenOnlyByCommit := by
  intro s t h hne
  rcases step_pixbuf_cases h with ⟨hf, hr, hd, hbuf, _⟩ | ⟨hbuf, _⟩
  · refine ⟨hf, hr, hd, fun j hj => ?_⟩
    rw [hbuf]
    exact Memory.read_write_other _ _ (by simpa [pixIndex] using hj)
  · exact absurd hbuf hne

/-- Settles O49, by the rules one by one: none reads the buffer. -/
theorem bufferContentsNeverRead : Obligations.BufferContentsNeverRead := by
  intro s m
  have hsame : forgetBuffer (step { s with pixbuf := m }) = _ := step_ignoresBuffer m s
  refine ⟨fun t h => ?_, fun f h => ?_, fun r h => ?_⟩ <;> rw [h] at hsame
  · exact eq_next_of_forgetBuffer hsame
  · exact eq_fault_of_forgetBuffer hsame
  · exact eq_refused_of_forgetBuffer hsame

end Sys2Proof.Proofs
end

section
/-! PROOFS. The layout of CMD64 as numbers, and the decoder and the encoder on it (R80, R85, R90). -/

namespace Sys2Proof

open Sys2Proof.Machine

/-! ## The layout -/

/-- The number of a word, field by field (R80). -/
theorem wordOf_toNat (op : Opcode) (a v : Byte) (e : Count32) :
    (wordOf op a v e).toNat = e.toNat * 2 ^ 32 + v.toNat * 2 ^ 16 + a.toNat * 2 ^ 8 + op.toNat := by
  have happ {m n : Nat} (x : BitVec m) (y : BitVec n) : (x ++ y).toNat = x.toNat * 2 ^ n + y.toNat := by
    rw [BitVec.toNat_append, ← Nat.shiftLeft_add_eq_or_of_lt y.isLt, Nat.shiftLeft_eq]
  calc (wordOf op a v e).toNat
      = ((((e.toNat * 2 ^ 8 + 0) * 2 ^ 8 + v.toNat) * 2 ^ 8 + a.toNat) * 2 ^ 4 + 0) * 2 ^ 4 + op.toNat := by
        rw [wordOf, happ, happ, happ, happ, happ]; rfl
    _ = _ := by omega

theorem aOf_eq_ofNat (w : CmdWord) : aOf w = BitVec.ofNat 8 (w.toNat / 2 ^ 8) := by
  apply BitVec.eq_of_toNat_eq
  simp [aOf, Nat.shiftRight_eq_div_pow]

theorem vOf_eq_ofNat (w : CmdWord) : vOf w = BitVec.ofNat 8 (w.toNat / 2 ^ 16) := by
  apply BitVec.eq_of_toNat_eq
  simp [vOf, Nat.shiftRight_eq_div_pow]

theorem eOf_eq_ofNat (w : CmdWord) : eOf w = BitVec.ofNat 32 (w.toNat / 2 ^ 32) := by
  apply BitVec.eq_of_toNat_eq
  simp [eOf, Nat.shiftRight_eq_div_pow]

/-- Every field of a word is where the decoder looks for it (R80). -/
theorem fields_wordOf (op : Opcode) (a v : Byte) (e : Count32) :
    opOf (wordOf op a v e) = op ∧ aOf (wordOf op a v e) = a ∧ vOf (wordOf op a v e) = v ∧
      eOf (wordOf op a v e) = e := by
  have hw := wordOf_toNat op a v e
  rw [opOf_eq_ofNat, aOf_eq_ofNat, vOf_eq_ofNat, eOf_eq_ofNat]
  refine ⟨?_, ?_, ?_, ?_⟩ <;> apply BitVec.eq_of_toNat_eq <;> rw [BitVec.toNat_ofNat] <;> omega

/-- Putting the fields of a word back into the layout clears the reserved fields W[7:4] and W[31:24] (R80, R84). -/
theorem wordOf_fields (w : CmdWord) :
    wordOf (opOf w) (aOf w) (vOf w) (eOf w) = w &&& 0xFFFFFFFF00FFFF0F#64 := by
  have hsplit : w = eOf w ++ w.extractLsb' 24 8 ++ vOf w ++ aOf w ++ w.extractLsb' 4 4 ++ opOf w := by
    unfold eOf vOf aOf opOf
    iterate 5 rw [BitVec.extractLsb'_append_extractLsb'_eq_extractLsb' (by decide)]
    exact BitVec.extractLsb'_eq_self.symm
  have hmask : 0xFFFFFFFF00FFFF0F#64 =
      BitVec.allOnes 32 ++ 0#8 ++ BitVec.allOnes 8 ++ BitVec.allOnes 8 ++ 0#4 ++ BitVec.allOnes 4 := by decide
  conv_rhs => rw [hsplit, hmask]
  iterate 5 rw [BitVec.and_append]
  simp only [BitVec.and_allOnes, BitVec.and_zero]
  rfl

/-! ## The opcode map -/

/-- The opcode map makes well-formed commands alone (R89, R90). -/
theorem commandOf_wellFormed (op : Opcode) (a v : Byte) (e : Count32) : WellFormed (commandOf op a v e) = true := by
  rcases opcode_cases op with rfl | rfl | rfl | rfl | rfl | rfl | rfl | rfl | rfl | rfl | rfl | rfl | rfl | rfl |
    rfl | rfl <;> rfl

/-- The opcodes with bit 3 set are those of `illegalHigh` (R89). -/
theorem commandOf_high {op : Opcode} (h : op.getLsbD 3 = true) (a v : Byte) (e : Count32) :
    commandOf op a v e = .illegalHigh op a v e := by
  have hlow : op ≠ 0x0#4 ∧ op ≠ 0x1#4 ∧ op ≠ 0x2#4 ∧ op ≠ 0x3#4 ∧ op ≠ 0x4#4 ∧ op ≠ 0x5#4 ∧ op ≠ 0x6#4 ∧
      op ≠ 0x7#4 := by
    revert op; decide
  simp [commandOf, hlow]

/-- A well-formed command is the one its opcode and fields make (R85, R89). -/
theorem commandOf_self {i : Instr} (h : WellFormed i = true) : commandOf i.op i.a i.v i.e = i := by
  cases i with
  | illegalHigh op a v e => exact commandOf_high h a v e
  | _ => rfl

theorem encode_commandOf (op : Opcode) (a v : Byte) (e : Count32) :
    encode (commandOf op a v e) = wordOf op a v e := by
  obtain ⟨hop, ha, hv, he⟩ := commandOf_fields op a v e
  rw [encode, hop, ha, hv, he]

/-- The decoder takes the layout apart (R90). -/
theorem decode_encode {i : Instr} (h : WellFormed i = true) : decode (encode i) = i := by
  obtain ⟨hop, ha, hv, he⟩ := fields_wordOf i.op i.a i.v i.e
  rw [decode, encode, hop, ha, hv, he, commandOf_self h]

/-! ## The assembler -/

/-- Two fields side by side, as the "encoding W" column of R91 writes them. -/
theorem shiftLeft_or_eq_add {low k : Nat} (n : Nat) (h : low < 2 ^ k) : n <<< k ||| low = n * 2 ^ k + low := by
  rw [← Nat.shiftLeft_add_eq_or_of_lt h, Nat.shiftLeft_eq]

/-- An assembled word is its command's when its number is what the command's fields add up to; it then decodes to the
command (R90, R91). -/
theorem assembled_word {form : AsmForm} {i : Instr} {n : Nat} (hi : WellFormed i = true)
    (hform : assemble form = some (BitVec.ofNat 64 n))
    (hn : i.e.toNat * 2 ^ 32 + i.v.toNat * 2 ^ 16 + i.a.toNat * 2 ^ 8 + i.op.toNat = n) :
    ∃ w, assemble form = some w ∧ w.toNat = n ∧ w = encode i ∧ decode w = i := by
  have htoNat : (encode i).toNat = n := (wordOf_toNat ..).trans hn
  have hw : BitVec.ofNat 64 n = encode i := by rw [← htoNat, BitVec.ofNat_toNat, BitVec.setWidth_eq]
  exact ⟨encode i, hw ▸ hform, htoNat, rfl, decode_encode hi⟩

end Sys2Proof
end

section
/-! PROOFS. The statements about the decoder, the encoder and the assembler. -/

namespace Sys2Proof.Proofs

open Sys2Proof.Machine

/-- Settles O1: the decoder finds the fields where the encoder put them, and they make the command again. -/
theorem decodeInvertsEncode : Obligations.DecodeInvertsEncode :=
  fun _ => decode_encode

/-- Settles O2: the opcode map is total, keeps the fields, and the layout puts 0 into the reserved ones. -/
theorem encodeInvertsDecodeUpToReserved : Obligations.EncodeInvertsDecodeUpToReserved := fun _ =>
  ⟨commandOf_wellFormed .., (encode_commandOf ..).trans (wordOf_fields _)⟩

/-- Settles O3: the fields are numbers cut out of the word's, and the opcode alone picks the command. -/
theorem opcodeMapSelectsCommand : Obligations.OpcodeMapSelectsCommand := by
  intro w
  have hdec (op : Opcode) (h : opOf w = op) : decode w = commandOf op (BitVec.ofNat 8 (w.toNat / 2 ^ 8))
      (BitVec.ofNat 8 (w.toNat / 2 ^ 16)) (BitVec.ofNat 32 (w.toNat / 2 ^ 32)) := by
    rw [decode, h, aOf_eq_ofNat, vOf_eq_ofNat, eOf_eq_ofNat]
  have hop {k : Nat} (h : w.toNat % 16 = k) : opOf w = BitVec.ofNat 4 k := by
    rw [opOf_eq_ofNat, ← h]
    exact BitVec.eq_of_toNat_eq (by simp)
  refine ⟨fun h => hdec _ (hop h), fun h => hdec _ (hop h), fun h => hdec _ (hop h), fun h => hdec _ (hop h),
    fun h => hdec _ (hop h), fun h => hdec _ (hop h), fun h => hdec _ (hop h), fun h => hdec _ (hop h), fun h => ?_⟩
  have hhigh : (BitVec.ofNat 4 w.toNat).getLsbD 3 = true := by
    rw [BitVec.getLsbD_ofNat, Nat.testBit_eq_decide_div_mod_eq]
    simp only [Nat.reduceLT, decide_true, Bool.true_and, decide_eq_true_eq]
    omega
  exact (hdec _ (opOf_eq_ofNat w)).trans (commandOf_high hhigh _ _ _)

/-- Settles O4: each word is one literal. -/
theorem specWordsDecode : Obligations.SpecWordsDecode := by
  unfold Obligations.SpecWordsDecode
  decide

/-- Settles O5, form by form: in range the shifts and ors of R91 add up to the number of the command's word. -/
theorem assemblerFormsDecode : Obligations.AssemblerFormsDecode := by
  refine ⟨fun n h => ?_, fun n h => ?_, ?_, fun n h => ?_, fun n m hn hm => ?_, ?_,
    fun n h => if_neg (Nat.not_le.mpr h), fun n h => if_neg (Nat.not_le.mpr h), fun n h => if_neg (Nat.not_le.mpr h),
    fun n m h => if_neg (by omega)⟩
  · refine assembled_word rfl ((if_pos h).trans ?_) ?_
    · rw [shiftLeft_or_eq_add n (by decide)]
    · change 0 * 2 ^ 32 + 0 * 2 ^ 16 + n % 2 ^ 8 * 2 ^ 8 + 0x1 = n * 2 ^ 8 + 0x1
      omega
  · refine assembled_word rfl ((if_pos h).trans ?_) ?_
    · rw [shiftLeft_or_eq_add n (by decide)]
    · change n % 2 ^ 32 * 2 ^ 32 + 0 * 2 ^ 16 + 0 * 2 ^ 8 + 0x2 = n * 2 ^ 32 + 0x2
      omega
  · exact assembled_word rfl rfl rfl
  · refine assembled_word rfl ((if_pos h).trans ?_) ?_
    · rw [shiftLeft_or_eq_add n (by decide)]
    · change 0 * 2 ^ 32 + 0 * 2 ^ 16 + n % 2 ^ 8 * 2 ^ 8 + 0x4 = n * 2 ^ 8 + 0x4
      omega
  · refine assembled_word rfl ((if_pos ⟨hn, hm⟩).trans ?_) ?_
    · rw [Nat.or_assoc, shiftLeft_or_eq_add n (by decide), shiftLeft_or_eq_add m (by omega), Nat.add_assoc]
    · change 0 * 2 ^ 32 + m % 2 ^ 8 * 2 ^ 16 + n % 2 ^ 8 * 2 ^ 8 + 0x5 = m * 2 ^ 16 + n * 2 ^ 8 + 0x5
      omega
  · exact assembled_word rfl rfl rfl

end Sys2Proof.Proofs
end

section
/-! PROOFS. The codes of STATE (R93, R94), the operands of R86 and R87, and the response of a command (R95). -/

namespace Sys2Proof.Machine

open Sys2Proof.Safety

theorem fsmOfCode_fsmCode (f : Fsm) : fsmOfCode (fsmCode f) = some f := by
  cases f <;> rfl

/-- A code that names a state is the state's, and those from 0x1C name none (R93, R94). -/
theorem fsmOfCode_cases (c : BitVec 5) :
    (0x1C ≤ c.toNat ∧ fsmOfCode c = none) ∨ (c.toNat < 0x1C ∧ (fsmOfCode c).map fsmCode = some c) := by
  revert c; decide

/-- The device address is A moved up by one bit (R86). -/
theorem devAddr_eq_shiftLeft (a : Byte) : devAddr a = a <<< 1 := by
  rw [devAddr_eq_ofNat]
  apply BitVec.eq_of_toNat_eq
  simp [Nat.shiftLeft_eq]
  omega

/-- The hold is E, but at least one microsecond (R87). -/
theorem holdUs_toNat (e : Count32) : (holdUs e).toNat = max e.toNat 1 := by
  unfold holdUs
  split
  case isTrue h => simp [h, Config.tExpMinUs]
  case isFalse h =>
    have hpos : e.toNat ≠ 0 := fun h0 => h (BitVec.eq_of_toNat_eq h0)
    omega

/-- A core step in RESPOND presents the results (R111). -/
theorem coreStep_respond {s : State} (hf : s.fsm = .respond) (hr : s.rst = false) :
    coreStep s = .next (present s) := by
  rw [coreStep_busy hr (by simp [hf]), exec_eq_stateRule _ (by simp [hf]) (by simp [hf]) (by simp [hf]) (by simp [hf]),
    stateRule, hf]
  rfl

/-- The reserved opcodes are those that are no command's (R89). -/
theorem isCommand_eq_false {op : Opcode} (h : op = 0x0#4 ∨ 0x7#4 ≤ op) : isCommand op = false := by
  revert op; decide

end Sys2Proof.Machine
end

section
/-! PROOFS. The statements about codes, operands and responses. -/

namespace Sys2Proof.Proofs

open Sys2Proof.Machine Sys2Proof.Safety

/-- Settles O6: the 28 codes are read off the table, and the map back is its inverse, none from 0x1C. -/
theorem stateCodesNameStates : Obligations.StateCodesNameStates := by
  unfold Obligations.StateCodesNameStates
  iterate 28 refine ⟨rfl, ?_⟩
  refine ⟨fsmOfCode_fsmCode, fun c f h => ?_, fun c h => ?_⟩
  · rcases fsmOfCode_cases c with ⟨_, hn⟩ | ⟨_, hc⟩
    · simp [hn] at h
    · simpa [h] using hc
  · rcases fsmOfCode_cases c with ⟨_, hn⟩ | ⟨hlt, _⟩
    · exact ⟨hn, by rw [fsmRecover, hn]; rfl⟩
    · omega

/-- Settles O58: the device address is a shift, which drops A[7], and the hold a maximum. -/
theorem operandAssembly : Obligations.OperandAssembly := by
  refine ⟨fun a => ⟨devAddr_eq_shiftLeft a, devAddr_getLsbD_zero a, ?_⟩, rfl, rfl, rfl, holdUs_toNat⟩
  have hdropped : (0x80 : Byte).extractLsb' 0 7 = 0#7 := rfl
  rw [devAddr, BitVec.extractLsb'_xor, hdropped, BitVec.xor_zero, devAddr]

/-- Settles O51: RESPOND copies the result registers out, and the invariant has R95's row for each opcode. -/
theorem responseMeetsTable : Obligations.ResponseMeetsTable := by
  intro s hs hf hr
  have hb : s.fsm ≠ .idle := by simp [hf]
  obtain ⟨hreserved, hinit, hzero⟩ := hs.resStatus hb
  obtain ⟨hrevision, hvalue⟩ := hs.resValue hb
  have hillegal : s.resIllegal = !isCommand s.cmdOp := hs.resIllegal hb
  have hcount : s.resCount = if s.cmdOp = 0x2#4 then 1024 else 0 := by
    apply BitVec.eq_of_toNat_eq
    rw [hs.resCount hb, hf]
    split <;> simp_all
  refine ⟨_, coreStep_respond hf hr, rfl, fun ho => ?_, fun ho => ?_, fun ho => ?_, fun ho => ?_, fun ho => ?_,
    fun ho => ?_⟩
  · have hst : s.resStatus = 0 ∨ s.resStatus = 1 := by
      have hle := hinit ho
      exact (Nat.le_one_iff_eq_zero_or_eq_one.mp hle).imp BitVec.eq_of_toNat_eq BitVec.eq_of_toNat_eq
    simpa [hcount, hillegal, ho, isCommand, hvalue] using hst
  · simp [hcount, hillegal, ho, isCommand, hvalue, hzero]
  · simp [hcount, hillegal, ho, isCommand, hrevision, hzero]
  · simp [hcount, hillegal, ho, isCommand]
  · rcases ho with ho | ho <;> simp [hcount, hillegal, ho, isCommand, hvalue]
  · have hno := isCommand_eq_false ho
    have hne : s.cmdOp ≠ 0x2#4 ∧ s.cmdOp ≠ 0x3#4 ∧ s.cmdOp ≠ 0x4#4 := by
      refine ⟨?_, ?_, ?_⟩ <;> intro h <;> simp [h, isCommand] at hno
    simp [hcount, hillegal, hno, hne, hvalue, hreserved]

end Sys2Proof.Proofs
end

section
/-! PROOFS. Bits that a command does not use: states that differ in them take steps that answer alike
(R84, R86, R87). -/

namespace Sys2Proof.Machine

open Sys2Proof.Safety

/-- The state with other operand latches and another word in the mailbox's cell. -/
def withFields (a v : Byte) (e : Count32) (w : CmdWord) (s : State) : State :=
  { s with cmdA := a, cmdV := v, cmdE := e, cmdWord := w }

theorem withFields_fsm (a v : Byte) (e : Count32) (w : CmdWord) (s : State) : (withFields a v e w s).fsm = s.fsm := rfl

/-- Two answers are alike: next states that differ in ignored bits alone, or one reason to stop (R84). -/
def AnswersAlike : Result → Result → Prop
  | .next s, .next t => DiffersInIgnoredFields s t
  | .fault f, .fault g => f = g
  | .refused q, .refused r => q = r
  | _, _ => False

/-- Two rules that branch on one test answer alike where their branches do. -/
theorem AnswersAlike.ite {c : Prop} [Decidable c] {x y x' y' : Result} (hx : AnswersAlike x x')
    (hy : AnswersAlike y y') : AnswersAlike (if c then x else y) (if c then x' else y') := by
  split
  · exact hx
  · exact hy

theorem AnswersAlike.of_next {o : Result} {s : State} (h : AnswersAlike (.next s) o) :
    ∃ t, o = .next t ∧ DiffersInIgnoredFields s t := by
  cases o with
  | next t => exact ⟨t, rfl, h⟩
  | fault | refused => exact h.elim

theorem AnswersAlike.of_refused {o : Result} {r : Refusal} (h : AnswersAlike (.refused r) o) : o = .refused r := by
  cases o with
  | refused r' => exact congrArg _ h.symm
  | next | fault => exact h.elim

theorem sameCommand_refl (w : CmdWord) : sameCommand w w :=
  ⟨rfl, fun _ => rfl, fun _ => rfl, fun _ => rfl, fun _ => ⟨rfl, rfl⟩⟩

/-- Out of reset, an unconfigured CAPTURE is refused whatever its fields are (R161). -/
theorem coreStep_idle_refuses {s : State} (hr : s.rst = false) (hi : s.fsm = .idle) (hv : s.cmdValid = true)
    (ho : opOf s.cmdWord = 0x2#4) (hc : ¬(s.pbEn = true ∧ s.pbRxth = true)) :
    coreStep s = .refused .captureUnconfigured := by
  rw [coreStep_idle_posted hr hi hv, decode, ho]
  have hoff : s.pbEn = false ∨ s.pbRxth = false := by
    revert hc; cases s.pbEn <;> cases s.pbRxth <;> simp
  simp [commandOf, exec, execCapture, hi, hv, hoff]

/-! ## Inside a command -/

/-- The commands that leave IDLE for a body, and those that only answer (R100). -/
theorem opcode_bodies (op : Opcode) : op = 0x1#4 ∨ op = 0x2#4 ∨ op = 0x4#4 ∨ op = 0x5#4 ∨ op = 0x6#4 ∨
    (op = 0x3#4 ∨ isCommand op = false) := by
  revert op; decide

/-- GETREV and the reserved opcodes decide no state but IDLE (R126, R127). -/
theorem exec_bodyless {s : State} {op : Opcode} {a v : Byte} {e : Count32} (hb : s.fsm ≠ .idle)
    (ho : op = 0x3#4 ∨ isCommand op = false) : exec (commandOf op a v e) s = stateRule s := by
  unfold commandOf
  split_ifs with h0 h1 h2 h3 h4 h5 h6 h7
  · simp only [exec, execIllegalZero]
  · simp [h1, isCommand] at ho
  · simp [h2, isCommand] at ho
  · simp only [exec, execGetrev]
  · simp [h4, isCommand] at ho
  · simp [h5, isCommand] at ho
  · simp [h6, isCommand] at ho
  · simp only [exec, execIllegalSeven]
  · simp only [exec, execIllegalHigh]

section Busy

variable {a v : Byte} {e : Count32} {w : CmdWord} {s : State}
  (hop : sameOperands s.cmdOp s.cmdA a s.cmdV v s.cmdE e) (hw : s.cmdValid = true → sameCommand s.cmdWord w)

include hop hw

/-- The timer counts whatever the operands are (R103). -/
theorem wait_alike (n : Fsm) : AnswersAlike (.next (wait n s)) (.next (wait n (withFields a v e w s))) := by
  dsimp only [wait, withFields]
  split
  · exact ⟨rfl, fun _ => hop, hw⟩
  · split <;> exact ⟨rfl, fun _ => hop, hw⟩

/-- CB_WAIT answers alike where the records of its answer do (R119). -/
theorem cbWait_alike {record : Byte → Byte → State → State}
    (hrec : ∀ x y, AnswersAlike (.next (goto .pwrDown (record x y { s with cbRsp := none })))
      (.next (goto .pwrDown (record x y { withFields a v e w s with cbRsp := none })))) :
    AnswersAlike (.next (cbWait record s)) (.next (cbWait record (withFields a v e w s))) := by
  rcases cbWait_cases record s with ⟨hr, he⟩ | ⟨x, y, hr, he⟩ <;> rw [he]
  · rw [cbWait_none record (s := withFields a v e w s) hr]
    exact ⟨rfl, fun _ => hop, hw⟩
  · rw [cbWait_some record (s := withFields a v e w s) hr]
    exact hrec x y

/-- The rules that no command decides: INIT_BIND reads A and EXP_OPEN reads E, in the commands that use them
(R116, R131). -/
theorem stateRule_alike (hp : onPath s.cmdOp s.fsm = true) :
    AnswersAlike (stateRule s) (stateRule (withFields a v e w s)) := by
  have ⟨hinit, hcapture, _, _⟩ := hop
  simp only [stateRule, withFields_fsm]
  cases hf : s.fsm with
  | initBind =>
    have ho : s.cmdOp = 0x1#4 := by simpa [onPath, hf] using hp
    have ha : devAddr a = devAddr s.cmdA := congrArg (· ++ 0#1) (hinit ho).symm
    exact ⟨congrArg (fun d => { initBind (withFields a v e w s) with cbDevaddr := d }) ha, fun _ => hop, hw⟩
  | expOpen =>
    have ho : s.cmdOp = 0x2#4 := by simpa [onPath, hf] using hp
    have he : holdUs e = holdUs s.cmdE := (hcapture ho).symm
    exact ⟨congrArg (fun n => { expOpen (withFields a v e w s) with dlyUs := n }) he, fun _ => hop, hw⟩
  | puWait => exact .ite rfl (wait_alike hop hw _)
  | cbIssue => rfl
  | cbWait => exact cbWait_alike hop hw fun _ _ => ⟨rfl, fun _ => hop, hw⟩
  | expHold | rdStrobeWait | rdSettle => exact wait_alike hop hw _
  | expWaitDrdy => dsimp only [expWaitDrdy, withFields]; split <;> exact ⟨rfl, fun _ => hop, hw⟩
  | rdLockWait => dsimp only [rdLockWait, withFields]; split <;> exact ⟨rfl, fun _ => hop, hw⟩
  | pxWaitMsb =>
    dsimp only [pxWaitMsb]
    cases hq : s.pbRxq with
    | nil => rw [rxPop_nil hq, rxPop_nil (s := withFields a v e w s) hq]; exact ⟨rfl, fun _ => hop, hw⟩
    | cons => rw [rxPop_cons hq, rxPop_cons (s := withFields a v e w s) hq]; exact ⟨rfl, fun _ => hop, hw⟩
  | pxWaitLsb =>
    dsimp only [pxWaitLsb]
    cases hq : s.pbRxq with
    | nil => rw [rxPop_nil hq, rxPop_nil (s := withFields a v e w s) hq]; exact ⟨rfl, fun _ => hop, hw⟩
    | cons => rw [rxPop_cons hq, rxPop_cons (s := withFields a v e w s) hq]; exact ⟨rfl, fun _ => hop, hw⟩
  | pxCommit => dsimp only [pxCommit, withFields]; split <;> exact ⟨rfl, fun _ => hop, hw⟩
  | _ => exact ⟨rfl, fun _ => hop, hw⟩

/-- The command in progress, by opcode: RDREG's request reads A and WRREG's reads A and V (R118). -/
theorem exec_alike (hb : s.fsm ≠ .idle) (hp : onPath s.cmdOp s.fsm = true) :
    AnswersAlike (exec (commandOf s.cmdOp s.cmdA s.cmdV s.cmdE) s)
      (exec (commandOf s.cmdOp a v e) (withFields a v e w s)) := by
  have ⟨_, _, hrdreg, hwrreg⟩ := hop
  have hrule := stateRule_alike hop hw hp
  have hwait := wait_alike hop hw
  rcases opcode_bodies s.cmdOp with ho | ho | ho | ho | ho | ho
  · rw [ho]
    change AnswersAlike (execInit _ _ _ _) (execInit _ _ _ _)
    dsimp only [execInit, withFields_fsm]
    split
    · contradiction
    · exact hwait _
    · exact ⟨rfl, fun _ => hop, hw⟩
    · refine cbWait_alike hop hw fun _ _ => ?_
      rw [recordInit_eq, recordInit_eq]
      exact ⟨rfl, fun _ => hop, hw⟩
    · exact hrule
  · rw [ho]
    change AnswersAlike (execCapture _ _ _ _) (execCapture _ _ _ _)
    dsimp only [execCapture, withFields_fsm]
    split
    · contradiction
    · exact hwait _
    · exact hrule
  · rw [ho]
    change AnswersAlike (execRdreg _ _ _ _) (execRdreg _ _ _ _)
    dsimp only [execRdreg, withFields_fsm]
    split
    · contradiction
    · exact hwait _
    · obtain rfl := hrdreg ho
      exact ⟨rfl, fun _ => hop, hw⟩
    · exact cbWait_alike hop hw fun _ _ => ⟨rfl, fun _ => hop, hw⟩
    · exact hrule
  · rw [ho]
    change AnswersAlike (execWrreg _ _ _ _) (execWrreg _ _ _ _)
    dsimp only [execWrreg, withFields_fsm]
    split
    · contradiction
    · exact hwait _
    · obtain ⟨rfl, rfl⟩ := hwrreg ho
      exact ⟨rfl, fun _ => hop, hw⟩
    · exact cbWait_alike hop hw fun _ _ => ⟨rfl, fun _ => hop, hw⟩
    · exact hrule
  · rw [ho]
    change AnswersAlike (execReset _ _ _ _) (execReset _ _ _ _)
    dsimp only [execReset, withFields_fsm]
    split
    · contradiction
    · exact hwait _
    · exact ⟨rfl, fun _ => hop, hw⟩
    · exact cbWait_alike hop hw fun _ _ => ⟨rfl, fun _ => hop, hw⟩
    · exact hrule
  · rw [exec_bodyless hb ho, exec_bodyless (s := withFields a v e w s) hb ho]
    exact hrule

end Busy

/-! ## The steps -/

section Step

variable {a v : Byte} {e : Count32} {w : CmdWord} {s : State}
  (hop : s.fsm ≠ .idle → sameOperands s.cmdOp s.cmdA a s.cmdV v s.cmdE e)
  (hw : s.cmdValid = true → sameCommand s.cmdWord w)

include hw

/-- IDLE: two words of one command are accepted or refused alike, whatever the latches held (R99, R161). -/
theorem coreStep_idle_alike (hr : s.rst = false) (hi : s.fsm = .idle) :
    AnswersAlike (coreStep s) (coreStep (withFields a v e w s)) := by
  cases hv : s.cmdValid with
  | false =>
    rw [coreStep_idle_empty hr hi hv, coreStep_idle_empty (s := withFields a v e w s) hr hi hv]
    exact ⟨rfl, fun hb => absurd hi hb, hw⟩
  | true =>
    obtain ⟨hopcode, hfields⟩ := hw hv
    by_cases hc : opOf s.cmdWord = 0x2#4 → s.pbEn = true ∧ s.pbRxth = true
    · rw [coreStep_idle_accepts hr hi hv hc,
        coreStep_idle_accepts (s := withFields a v e w s) hr hi hv fun h => hc (hopcode.trans h),
        accept_posted _ _ _ _ hv, accept_posted (s := withFields a v e w s) _ _ _ _ hv,
        show opOf (withFields a v e w s).cmdWord = opOf s.cmdWord from hopcode.symm]
      exact ⟨rfl, fun _ => hfields, nofun⟩
    · obtain ⟨ho, hn⟩ := Classical.not_imp.mp hc
      rw [coreStep_idle_refuses hr hi hv ho hn,
        coreStep_idle_refuses (s := withFields a v e w s) hr hi hv (hopcode.symm.trans ho) hn]
      rfl

include hop

/-- A core step: the block reset clears the latches, and the rest goes by whether a command is in progress (R96). -/
theorem coreStep_alike (hs : BlockInv s) : AnswersAlike (coreStep s) (coreStep (withFields a v e w s)) := by
  cases hr : s.rst with
  | true =>
    rw [coreStep_rst hr, coreStep_rst (s := withFields a v e w s) hr]
    exact ⟨rfl, fun hb => absurd rfl hb, hw⟩
  | false =>
    by_cases hi : s.fsm = .idle
    · exact coreStep_idle_alike hw hr hi
    · rw [coreStep_busy hr hi, coreStep_busy (s := withFields a v e w s) hr hi]
      exact exec_alike (hop hi) hw hi (hs.path hi)

/-- An agent's step reads none of the cells; HOST's post puts one word in both (R40, R43, R47, R48). -/
theorem envStep_alike (turn : EnvStep) : AnswersAlike (envStep turn s) (envStep turn (withFields a v e w s)) := by
  cases turn with
  | hostPost w' => exact .ite rfl ⟨rfl, hop, fun _ => sameCommand_refl w'⟩
  | hostReadPix | hostReadRegs | hostRst | sensor => exact ⟨rfl, hop, hw⟩
  | pixbus | cbus | cbusLate | grant | release => exact .ite ⟨rfl, hop, hw⟩ rfl

/-- A step of any agent. -/
theorem step_alike (hs : BlockInv s) : AnswersAlike (step s) (step (withFields a v e w s)) := by
  match hq : s.schedule with
  | [] =>
    rw [step_empty hq, step_empty (s := withFields a v e w s) hq]
    exact coreStep_alike hop hw hs
  | .core :: rest =>
    rw [step_core hq, step_core (s := withFields a v e w s) hq]
    exact coreStep_alike (s := { s with schedule := rest }) hop hw { hs with }
  | .env turn :: rest =>
    rw [step_env hq, step_env (s := withFields a v e w s) hq]
    exact envStep_alike (s := { s with schedule := rest }) hop hw turn

end Step

end Sys2Proof.Machine
end

section
/-! PROOFS. The statement about ignored bits. -/

namespace Sys2Proof.Proofs

open Sys2Proof.Machine Sys2Proof.Safety

/-- Settles O56: the second state is the first with other latches and another word, and every rule answers alike on
the two. -/
theorem ignoredFieldsChangeNothing : Obligations.IgnoredFieldsChangeNothing := by
  intro s t hs ⟨ht, hop, hw⟩
  have halike : AnswersAlike (step s) (step t) := by
    rw [ht]
    exact step_alike hop hw hs
  refine ⟨fun s' h => ?_, fun r h => ?_⟩ <;> rw [h] at halike
  · exact halike.of_next
  · exact halike.of_refused

end Sys2Proof.Proofs
end

section
/-! PROOFS. What a step is in the states of the sequencer: the states that no command decides, the wait states, CB_WAIT, and
the polling states whose test fails. -/

namespace Sys2Proof.Machine

open Sys2Proof.Safety

variable {s : State}

/-- The first state of a body, read off R100's table. -/
theorem dispatch_eq_firstState (op : Opcode) : dispatch op = firstState op := by
  revert op; decide

/-- The command opcodes as a range (R99). -/
theorem isCommand_eq_decide (op : Opcode) : isCommand op = decide (1 ≤ op.toNat ∧ op.toNat ≤ 6) := by
  revert op; decide

/-- In a state that no command decides every command's step is the state's rule (R96 (b)). -/
theorem exec_eq_stateRule_of_fsm (i : Instr) {f : Fsm} (h : s.fsm = f)
    (hn : f ∉ [Fsm.idle, .puWait, .cbIssue, .cbWait]) : exec i s = stateRule s := by
  subst h
  simp only [List.mem_cons, List.not_mem_nil, or_false, not_or] at hn
  obtain ⟨h1, h2, h3, h4⟩ := hn
  exact exec_eq_stateRule i h1 h2 h3 h4

theorem exec_puDrive (i : Instr) (h : s.fsm = .puDrive) : exec i s = .next (puDrive s) := by
  rw [exec_eq_stateRule_of_fsm i h (by decide), stateRule, h]

theorem exec_pwrDown (i : Instr) (h : s.fsm = .pwrDown) : exec i s = .next (pwrDown s) := by
  rw [exec_eq_stateRule_of_fsm i h (by decide), stateRule, h]

theorem exec_respond (i : Instr) (h : s.fsm = .respond) : exec i s = .next (respond s) := by
  rw [exec_eq_stateRule_of_fsm i h (by decide), stateRule, h]

/-- In a wait state with a successor the step is the wait for it, PU_WAIT's being the body of the opcode (R103, R106). -/
theorem exec_commandOf_wait {op : Opcode} {next : Fsm} (h : waitSuccessor op s.fsm = some next) (a v : Byte)
    (e : Count32) : exec (commandOf op a v e) s = .next (wait next s) := by
  rcases waitSuccessor_cases h with ⟨hf, rfl, ho⟩ | ⟨hf, rfl, ho⟩ | ⟨hf, rfl⟩ | ⟨hf, rfl⟩ | ⟨hf, rfl⟩
  · rcases ho with rfl | rfl | rfl | rfl <;>
      simp [commandOf, exec, execInit, execRdreg, execWrreg, execReset, hf]
  · simp [ho, commandOf, exec, execCapture, hf]
  all_goals rw [exec_eq_stateRule_of_fsm _ hf (by decide), stateRule, hf]

/-- CB_WAIT takes the answer in every command, which differ in what they record of it (R119). -/
theorem exec_cbWait (i : Instr) (h : s.fsm = .cbWait) : ∃ record, exec i s = .next (cbWait record s) := by
  cases i with
  | init => exact ⟨recordInit, by simp [exec, execInit, h]⟩
  | rdreg => exact ⟨recordRdreg, by simp [exec, execRdreg, h]⟩
  | wrreg => exact ⟨recordWrreg, by simp [exec, execWrreg, h]⟩
  | reset => exact ⟨recordReset, by simp [exec, execReset, h]⟩
  | _ => exact ⟨recordNothing, by simp [exec, execCapture, execGetrev, execIllegalZero, execIllegalSeven,
      execIllegalHigh, stateRule, h]⟩

/-- A polling state whose test fails holds (R98). -/
theorem coreStep_holding (hr : s.rst = false) (hp : holding s) : coreStep s = .next (hold s) := by
  rcases hp with ⟨hf, hv⟩ | ⟨hf, hrsp⟩ | ⟨hf, hrdy⟩ | ⟨hf, hgnt⟩ | ⟨hf | hf, hq⟩
  · exact coreStep_idle_empty hr hf hv
  · obtain ⟨record, e⟩ := exec_cbWait (commandOf s.cmdOp s.cmdA s.cmdV s.cmdE) hf
    rw [coreStep_busy hr (by simp [hf]), e, cbWait_none record hrsp]
  all_goals
    rw [coreStep_busy hr (by simp [hf]), exec_eq_stateRule_of_fsm _ hf (by decide), stateRule, hf]
  · simp [expWaitDrdy, hrdy]
  · simp [rdLockWait, hgnt]
  · simp [pxWaitMsb, rxPop_nil hq]
  · simp [pxWaitLsb, rxPop_nil hq]

/-- A core step in PU_DRIVE (R105). -/
theorem coreStep_puDrive (hr : s.rst = false) (hf : s.fsm = .puDrive) : coreStep s = .next (puDrive s) := by
  rw [coreStep_busy hr (by simp [hf]), exec_puDrive _ hf]

/-- A core step in a wait state (R103). -/
theorem coreStep_wait {next : Fsm} (hr : s.rst = false) (h : waitSuccessor s.cmdOp s.fsm = some next) :
    coreStep s = .next (wait next s) := by
  have hb : s.fsm ≠ .idle := fun hi => by simp [hi, waitSuccessor] at h
  rw [coreStep_busy hr hb, exec_commandOf_wait h]

/-- Outside RESPOND a core move ends the response pulse and leaves the response as it was (R97, R111). -/
theorem CoreMove.response_kept {t : State} (m : CoreMove s t) (hn : s.fsm ≠ .respond) :
    t.respValid = false ∧ t.respOp = s.respOp ∧ t.respStatus = s.respStatus ∧ t.respValue = s.respValue ∧
      t.respCount = s.respCount ∧ t.respIllegal = s.respIllegal := by
  cases m with
  | respond h => exact absurd h hn
  | accepted _ posted _ e => rw [e, accept_posted _ _ _ _ posted]; exact ⟨rfl, rfl, rfl, rfl, rfl, rfl⟩
  | answeredInit _ _ _ _ _ e => rw [e, recordInit_eq]; exact ⟨rfl, rfl, rfl, rfl, rfl, rfl⟩
  | _ => rename_i e; rw [e]; exact ⟨rfl, rfl, rfl, rfl, rfl, rfl⟩

/-- The powered states are those with codes 0x04 to 0x1A (R93, R110). -/
theorem powered_iff_fsmCode (f : Fsm) : powered f = true ↔ 0x04 ≤ (fsmCode f).toNat ∧ (fsmCode f).toNat ≤ 0x1A := by
  cases f <;> decide

end Sys2Proof.Machine
end

section
/-! PROOFS. Steps that have a next state: on the path of its command no state lacks the rule it needs. -/

namespace Sys2Proof.Machine

open Sys2Proof.Safety

variable {s : State}

/-- PU_WAIT has a successor for every command whose path it is on (R106, R112). -/
theorem waitSuccessor_puWait {op : Opcode} (h : onPath op .puWait = true) :
    waitSuccessor op .puWait = some (if op = 0x2#4 then .expOpen else .cbIssue) := by
  revert op; decide

/-- CB_ISSUE has a request for every command whose path it is on (R112, R118). -/
theorem exec_cbIssue_total {op : Opcode} (hf : s.fsm = .cbIssue) (hp : onPath op .cbIssue = true) (a v : Byte)
    (e : Count32) : ∃ t, exec (commandOf op a v e) s = .next t := by
  have ho : op = 0x1#4 ∨ op = 0x4#4 ∨ op = 0x5#4 ∨ op = 0x6#4 := by revert op; decide
  rcases ho with rfl | rfl | rfl | rfl <;>
    simp [commandOf, exec, execInit, execRdreg, execWrreg, execReset, hf]

/-- The rules that no command decides have a next state. -/
theorem stateRule_total (h2 : s.fsm ≠ .puWait) (h3 : s.fsm ≠ .cbIssue) : ∃ t, stateRule s = .next t := by
  cases hf : s.fsm with
  | puWait => exact absurd hf h2
  | cbIssue => exact absurd hf h3
  | _ => exact ⟨_, by rw [stateRule, hf]⟩

/-- Inside a command, a step in a state on the command's path has a next state (R112, R113). -/
theorem exec_total {op : Opcode} (hb : s.fsm ≠ .idle) (hp : onPath op s.fsm = true) (a v : Byte) (e : Count32) :
    ∃ t, exec (commandOf op a v e) s = .next t := by
  by_cases h2 : s.fsm = .puWait
  · rw [h2] at hp
    exact ⟨_, exec_commandOf_wait (h2 ▸ waitSuccessor_puWait hp) a v e⟩
  by_cases h3 : s.fsm = .cbIssue
  · exact exec_cbIssue_total h3 (h3 ▸ hp) a v e
  by_cases h4 : s.fsm = .cbWait
  · obtain ⟨record, h⟩ := exec_cbWait (commandOf op a v e) h4
    exact ⟨_, h⟩
  rw [exec_eq_stateRule _ hb h2 h3 h4]
  exact stateRule_total h2 h3

/-- A core step has a next state, or refuses an unconfigured CAPTURE (R113, R161). -/
theorem coreStep_next_or_refused (hs : BlockInv s) :
    (∃ t, coreStep s = .next t) ∨
    (coreStep s = .refused .captureUnconfigured ∧ s.rst = false ∧ s.fsm = .idle ∧ s.cmdValid = true ∧
      opOf s.cmdWord = 0x2#4 ∧ s.pbEn = false) := by
  cases hr : s.rst with
  | true => exact .inl ⟨_, coreStep_rst hr⟩
  | false =>
    by_cases hi : s.fsm = .idle
    · cases hv : s.cmdValid with
      | false => exact .inl ⟨_, coreStep_idle_empty hr hi hv⟩
      | true =>
        by_cases hc : opOf s.cmdWord = 0x2#4 → s.pbEn = true ∧ s.pbRxth = true
        · exact .inl ⟨_, coreStep_idle_accepts hr hi hv hc⟩
        · obtain ⟨ho, hn⟩ := Classical.not_imp.mp hc
          have hoff : s.pbEn = false := by simpa [hs.configBits] using hn
          exact .inr ⟨coreStep_idle_refuses hr hi hv ho hn, rfl, hi, rfl, ho, hoff⟩
    · rw [coreStep_busy hr hi]
      exact .inl (exec_total hi (hs.path hi) _ _ _)

theorem coreStep_ne_fault (hs : BlockInv s) (f : Fault) : coreStep s ≠ .fault f := by
  rcases coreStep_next_or_refused hs with ⟨t, h⟩ | ⟨h, _⟩ <;> rw [h] <;> nofun

/-- An agent moves or has no step: nothing of it is a fault (R170). -/
theorem envStep_ne_fault (e : EnvStep) (f : Fault) : envStep e s ≠ .fault f := by
  cases e with
  | hostReadPix | hostReadRegs | hostRst | sensor => nofun
  | hostPost | pixbus | cbus | cbusLate | grant | release =>
    simp only [envStep, hostPost, pixbusByte, cbusAnswer, cbusLateAnswer, arbiterGrant, arbiterRelease]
    split <;> nofun

end Sys2Proof.Machine
end

section
/-! PROOFS. Runs of CORE alone through a wait state and a polling state. CORE has the next turns where the schedule is
empty or begins with turns of CORE. -/

namespace Sys2Proof.Machine

open Sys2Proof.Safety

variable {s : State} {next : Fsm} {n : Nat}

/-- The next `n` turns are CORE's (R8). -/
def CoreTurnsNext (n : Nat) (s : State) : Prop := ∀ turn ∈ s.schedule.take n, turn = .core

theorem coreTurnsNext_of_empty (h : s.schedule = []) (n : Nat) : CoreTurnsNext n s := by
  simp [CoreTurnsNext, h]

theorem coreTurnsNext_of_append {m : Nat} {rest : List Turn} (h : s.schedule = coreTurns m ++ rest) (hn : n ≤ m) :
    CoreTurnsNext n s := by
  intro turn ht
  rw [h, List.take_append_of_le_length (by simpa [coreTurns] using hn)] at ht
  exact List.eq_of_mem_replicate (List.mem_of_mem_take ht)

/-- The state with the turn of CORE taken out of the schedule. -/
def takeTurn (s : State) : State := { s with schedule := s.schedule.tail }

/-- On CORE's turn a run begins with a core step, and the turns after it are those of the next state (R8). -/
theorem run_coreStep {t : State} (hc : CoreTurnsNext (n + 1) s) (h : coreStep (takeTurn s) = .next t)
    (ht : t.schedule = s.schedule.tail) : run (n + 1) s = run n t ∧ CoreTurnsNext n t := by
  rw [CoreTurnsNext, ht]
  cases hs : s.schedule with
  | nil =>
    have hsame : takeTurn s = s := by rw [takeTurn, hs, List.tail_nil, ← hs]
    exact ⟨run_step ((step_empty hs).trans (hsame ▸ h)), by simp⟩
  | cons turn rest =>
    rw [CoreTurnsNext, hs, List.take_succ_cons, List.forall_mem_cons] at hc
    obtain ⟨rfl, hrest⟩ := hc
    rw [takeTurn, hs, List.tail_cons] at h
    exact ⟨run_step ((step_core hs).trans h), hrest⟩

/-! ## A wait state -/

/-- The state with another timer, its response pulse over or not, and the schedule gone on. -/
def withTimer (us : Count32) (pre : Nat) (pulse : Bool) (turns : List Turn) (s : State) : State :=
  { s with dlyUs := us, dlyPre := pre, respValid := pulse, schedule := turns }

/-- Core steps that a wait state has still to count (R104): those of this microsecond, and of the ones after it. -/
def cyclesLeft (us : Count32) (pre : Nat) : Nat :=
  if us = 0 then 0 else (us.toNat - 1) * Config.cycPerUs + pre + 1

/-- A loaded timer has its microseconds to wait (R102). -/
theorem cyclesLeft_full (us : Count32) : cyclesLeft us (Config.cycPerUs - 1) = us.toNat * Config.cycPerUs := by
  unfold cyclesLeft
  split
  case isTrue h => simp [h]
  case isFalse h =>
    obtain ⟨k, hk⟩ := Nat.exists_eq_succ_of_ne_zero fun h0 => h (BitVec.eq_of_toNat_eq h0)
    have hpos : 0 < Config.cycPerUs := Nat.succ_pos _
    rw [hk, Nat.succ_mul, Nat.succ_sub_one]
    omega

/-- A wait state on its way to `next`, out of reset, with a timer that `Load` and the counting give (R102, R103). -/
structure Waiting (next : Fsm) (s : State) : Prop where
  noReset : s.rst = false
  successor : waitSuccessor s.cmdOp s.fsm = some next
  full : s.dlyUs = 0 → s.dlyPre = Config.cycPerUs - 1

/-- A core step that does not leave a wait state counts one cycle of its time (R103). -/
theorem Waiting.counts (hw : Waiting next s) (h : cyclesLeft s.dlyUs s.dlyPre = n + 1) :
    ∃ us pre, coreStep s = .next (withTimer us pre false s.schedule s) ∧
      Waiting next (withTimer us pre false s.schedule s) ∧ cyclesLeft us pre = n := by
  obtain ⟨hr, hsucc, _⟩ := hw
  rw [coreStep_wait hr hsucc]
  rcases wait_cases next s with ⟨hus, _⟩ | ⟨hus, hpre, e⟩ | ⟨hus, hpre, e⟩
  · simp [cyclesLeft, hus] at h
  · refine ⟨_, _, congrArg _ e, ⟨hr, hsucc, fun _ => rfl⟩, ?_⟩
    have hsub : (s.dlyUs - 1).toNat = s.dlyUs.toNat - 1 := by bv_omega
    rw [cyclesLeft_full, hsub]
    rw [cyclesLeft, if_neg hus, hpre] at h
    exact Nat.succ.inj h
  · refine ⟨_, _, congrArg _ e, ⟨hr, hsucc, fun h0 => absurd h0 hus⟩, ?_⟩
    rw [cyclesLeft, if_neg hus] at h
    rw [cyclesLeft, if_neg hus]
    change (s.dlyUs.toNat - 1) * Config.cycPerUs + (s.dlyPre - 1) + 1 = n
    omega

/-- Up to the end of its time a run of a wait state moves the timer alone (R103, R104). -/
theorem Waiting.run_counts (hw : Waiting next s) (hc : CoreTurnsNext n s) (hn : n ≤ cyclesLeft s.dlyUs s.dlyPre) :
    ∃ us pre pulse, run n s = .next (withTimer us pre pulse (s.schedule.drop n) s) := by
  induction n generalizing s with
  | zero => exact ⟨s.dlyUs, s.dlyPre, s.respValid, rfl⟩
  | succ n ih =>
    obtain ⟨m, hm⟩ := Nat.exists_eq_add_of_le' (Nat.le_of_add_left_le hn)
    have hw' : Waiting next (takeTurn s) := { hw with }
    obtain ⟨us, pre, hstep, hwt, hleft⟩ := hw'.counts hm
    obtain ⟨hrun, hct⟩ := run_coreStep hc hstep rfl
    obtain ⟨us', pre', pulse, hrest⟩ := ih hwt hct (show n ≤ cyclesLeft us pre by omega)
    exact ⟨us', pre', pulse, by rw [hrun, hrest, ← List.drop_tail]; rfl⟩

/-- The state after a wait: the timer has run out, and STATE is the successor (R104). -/
def waited (next : Fsm) (turns : List Turn) (s : State) : State :=
  goto next (withTimer 0 (Config.cycPerUs - 1) false turns s)

/-- A wait state leaves one core step after its time (R104). -/
theorem Waiting.run_leaves (hw : Waiting next s) (hn : cyclesLeft s.dlyUs s.dlyPre = n)
    (hc : CoreTurnsNext (n + 1) s) : run (n + 1) s = .next (waited next (s.schedule.drop (n + 1)) s) := by
  induction n generalizing s with
  | zero =>
    have hus : s.dlyUs = 0 := by simpa [cyclesLeft] using hn
    have hstep : coreStep (takeTurn s) = .next (goto next (takeTurn s)) := by
      rw [coreStep_wait (s := takeTurn s) hw.noReset hw.successor, wait, if_pos (show (takeTurn s).dlyUs = 0 from hus)]
    rw [(run_coreStep hc hstep rfl).1, run_zero, waited, withTimer, ← hus, ← hw.full hus, List.drop_one]
    rfl
  | succ n ih =>
    have hw' : Waiting next (takeTurn s) := { hw with }
    obtain ⟨us, pre, hstep, hwt, hleft⟩ := hw'.counts hn
    obtain ⟨hrun, hct⟩ := run_coreStep hc hstep rfl
    rw [hrun, ih hwt hleft hct]
    exact congrArg (fun turns => Host.Outcome.next (waited next turns s)) List.drop_tail

/-! ## A polling state -/

/-- A polling state whose test fails holds in every core step (R98, R168). -/
theorem run_holding (hr : s.rst = false) (hp : holding s) (hc : CoreTurnsNext (n + 1) s) :
    run (n + 1) s = .next { s with respValid := false, schedule := s.schedule.drop (n + 1) } := by
  induction n generalizing s with
  | zero =>
    rw [(run_coreStep hc (coreStep_holding (s := takeTurn s) hr hp) rfl).1, run_zero, List.drop_one]
    rfl
  | succ n ih =>
    obtain ⟨hrun, hct⟩ := run_coreStep hc (coreStep_holding (s := takeTurn s) hr hp) rfl
    rw [hrun, ih (s := hold (takeTurn s)) hr hp hct]
    exact congrArg (fun turns => Host.Outcome.next { s with respValid := false, schedule := turns }) List.drop_tail

end Sys2Proof.Machine
end

section
/-! PROOFS. The statements about the sequencer. -/

namespace Sys2Proof.Proofs

open Sys2Proof.Machine Sys2Proof.Safety

/-- Settles O10, by the acceptance of IDLE: the opcode tables of R99 and R100 are the statement's ranges. -/
theorem acceptanceLatchesCommand : Obligations.AcceptanceLatchesCommand := by
  intro i s _ hi hv hc
  rw [exec_idle i hi fun ho _ => hc ho, accept_posted _ _ _ _ hv, dispatch_eq_firstState, acceptStatus,
    acceptIllegal, isCommand_eq_decide]
  by_cases hcommand : 1 ≤ i.op.toNat ∧ i.op.toNat ≤ 6
  · simp [hcommand, acceptValue]
  · simp [hcommand, acceptValue]

/-- Settles O13, by the three branches of a wait. -/
theorem waitStatesCountDown : Obligations.WaitStatesCountDown := by
  intro i s next h hi
  have hstep : exec i s = .next (wait next s) := by
    rw [← exec_commandOf_wait h i.a i.v i.e, commandOf_self hi]
  rw [hstep]
  rcases wait_cases next s with ⟨hus, e⟩ | ⟨hus, hpre, e⟩ | ⟨hus, hpre, e⟩ <;> rw [e]
  · exact ⟨fun _ => rfl, fun hn => absurd hus hn, fun hn => absurd hus hn⟩
  · exact ⟨fun h0 => absurd h0 hus, fun _ _ => rfl, fun _ hn => absurd hpre hn⟩
  · exact ⟨fun h0 => absurd h0 hus, fun _ h0 => absurd h0 hpre, fun _ _ => rfl⟩

/-- Settles O25, by the counting of a wait state and its leaving. -/
theorem waitLastsLoadedTime : Obligations.WaitLastsLoadedTime := by
  intro s next hturns hr hsucc hpre
  have hw : Waiting next s := ⟨hr, hsucc, fun _ => hpre⟩
  have hleft : cyclesLeft s.dlyUs s.dlyPre = s.dlyUs.toNat * Config.cycPerUs := by rw [hpre, cyclesLeft_full]
  refine ⟨fun n hn => ?_, ?_⟩
  · obtain ⟨_, _, _, hrun⟩ := hw.run_counts (coreTurnsNext_of_empty hturns n) (hleft ▸ hn)
    exact ⟨_, hrun, rfl, rfl⟩
  · rw [hw.run_leaves hleft (coreTurnsNext_of_empty hturns _), hturns, List.drop_nil, ← hturns]
    rfl

/-- Settles O26: PU_DRIVE's step loads the wait of PU_WAIT, whose successor is the body. -/
theorem powerUpSettlesBeforeUse : Obligations.PowerUpSettlesBeforeUse := by
  intro s hturns hr hf hop
  have hfirst (n : Nat) : run (n + 1) s = run n (puDrive s) :=
    run_step ((step_empty hturns).trans (coreStep_puDrive hr hf))
  have hpath : onPath s.cmdOp .puWait = true := by
    rcases hop with h | h | h | h | h <;> rw [h] <;> rfl
  have hw : Waiting (if s.cmdOp = 0x2#4 then .expOpen else .cbIssue) (puDrive s) :=
    ⟨hr, waitSuccessor_puWait hpath, fun _ => rfl⟩
  have hleft : cyclesLeft (puDrive s).dlyUs (puDrive s).dlyPre = 12 * Config.cycPerUs := cyclesLeft_full 12
  have hc (n : Nat) : CoreTurnsNext n (puDrive s) := coreTurnsNext_of_empty hturns n
  refine ⟨fun n h1 hn => ?_, ?_⟩
  · obtain ⟨m, rfl⟩ := Nat.exists_eq_add_of_le' h1
    obtain ⟨_, _, _, hrun⟩ := hw.run_counts (hc m) (hleft ▸ Nat.le_of_succ_le_succ hn)
    exact ⟨_, (hfirst m).trans hrun, rfl, rfl, rfl, rfl⟩
  · rw [hfirst, hw.run_leaves hleft (hc _), show (puDrive s).schedule = [] from hturns, List.drop_nil, ← hturns]
    rfl

/-- Settles O28, by the hold of the six polling states. -/
theorem pollHoldsWithoutInput : Obligations.PollHoldsWithoutInput := by
  intro s n hturns hr hp
  rw [run_holding hr hp (coreTurnsNext_of_empty hturns _), hturns, List.drop_nil, ← hturns]

/-- Settles O40: the core step is next or refused, and the agents' steps are. -/
theorem noFaultFromInvariant : Obligations.NoFaultFromInvariant := by
  intro s f hs
  match hq : s.schedule with
  | [] => rw [step_empty hq]; exact coreStep_ne_fault hs f
  | .core :: rest => rw [step_core hq]; exact coreStep_ne_fault (s := { s with schedule := rest }) { hs with } f
  | .env e :: rest => rw [step_env hq]; exact envStep_ne_fault e f

/-- Settles O41: on its command's path every state has the rule it needs. -/
theorem coreStepIsTotal : Obligations.CoreStepIsTotal := by
  intro s hs
  refine (coreStep_next_or_refused hs).imp id fun ⟨h, hr, hi, hv, ho, hen⟩ => ⟨h, hr, hi, hv, ?_, hen⟩
  simpa [opOf] using congrArg BitVec.toNat ho

/-- Settles O46, by the graph of STATE inside a command and by the two moves of IDLE. -/
theorem stateFollowsCommandPath : Obligations.StateFollowsCommandPath := by
  intro s t _ hr h
  have m := coreStep_move hr h
  refine ⟨m.fsm_mem_successors, fun hi hv => ?_, fun hi hv => ?_⟩ <;>
    rcases m.of_idle hi with ⟨hv', rfl⟩ | ⟨hv', _, rfl⟩
  · simp [hv] at hv'
  · rw [accept_posted _ _ _ _ hv, ← opOf_eq_ofNat]
    exact dispatch_eq_firstState _
  · exact hi
  · simp [hv] at hv'

/-- Settles O50: RESPOND presents, and every other move ends the pulse and keeps the response. -/
theorem responseIsOneStepPulse : Obligations.ResponseIsOneStepPulse := by
  intro s t hr h
  by_cases hf : s.fsm = .respond
  · rw [coreStep_respond hf hr] at h
    cases h
    simp [hf]
  · obtain ⟨hvalid, hkept⟩ := (coreStep_move hr h).response_kept hf
    exact ⟨by simp [hvalid, hf], fun _ => hkept⟩

/-- Settles O8, by the hold of IDLE. -/
theorem idleHoldsWithoutCommand : Obligations.IdleHoldsWithoutCommand :=
  fun _ => coreStep_idle_empty

/-- Settles O12: the two states have one rule for every command, and PWR_DOWN is none of the states in which a line of the
readout or the shutter is active. -/
theorem powerStatesDrivePd : Obligations.PowerStatesDrivePd := by
  intro i s
  refine ⟨exec_puDrive i, exec_pwrDown i, fun hs hf => ?_⟩
  rw [hs.shutter, hs.read, hs.select, hf]
  exact ⟨rfl, rfl, rfl⟩

/-- Settles O14: RESPOND has one rule for every command. -/
theorem respondPresentsResults : Obligations.RespondPresentsResults :=
  fun i _ => exec_respond i

/-- Settles O44: PD is 0 in the powered states, and those have the codes. -/
theorem sensorPoweredStates : Obligations.SensorPoweredStates := by
  intro s hs
  rw [hs.pd, Bool.not_eq_false', powered_iff_fsmCode]

end Sys2Proof.Proofs
end

section
/-! PROOFS. The control bus's part of a command: the request that CB_ISSUE posts and what CB_WAIT records, by opcode. -/

namespace Sys2Proof.Machine

open Sys2Proof.Safety

variable {s : State} {op : Opcode}

/-- A request as the control-bus mailbox holds it (R45). -/
structure BusRequest where
  kind : CbKind
  dev : Byte
  reg : Byte
  data : Byte
  tmo : Count32

/-- R118's table: the row of INIT, RDREG and WRREG by their opcodes, and of RESET elsewhere. -/
def busRequest (op : Opcode) (s : State) : BusRequest :=
  if op = 0x1#4 then ⟨.memRead, s.cbDevaddr, 0xFF, 0x00, 100⟩
  else if op = 0x4#4 then ⟨.memRead, s.cbDevaddr, s.cmdA, 0x00, 100⟩
  else if op = 0x5#4 then ⟨.memWrite, s.cbDevaddr, s.cmdA, s.cmdV, 100⟩
  else ⟨.transmit, 0x00, 0x00, 0x06, 100⟩

/-- CB_ISSUE with a request in one piece (R118). -/
def issue (r : BusRequest) (s : State) : State := cbIssue r.kind r.dev r.reg r.data r.tmo s

/-- R119's table: what the command with this opcode records of an answer. -/
def recordAnswer (op : Opcode) (status rdata : Byte) (s : State) : State :=
  { s with
    revision := if op = 0x1#4 then (if status = 0x00 then rdata else s.revision) else s.revision
    resStatus := if op = 0x1#4 then (if status = 0x00 then 0x00 else 0x01) else status
    resValue := if op = 0x4#4 then rdata else s.resValue }

/-- The commands with a control-bus transaction (R112). -/
theorem onPath_cbIssue_cases (h : onPath op .cbIssue = true) :
    op = 0x1#4 ∨ op = 0x4#4 ∨ op = 0x5#4 ∨ op = 0x6#4 := by
  revert op; decide

/-- CB_ISSUE posts its command's row of R118's table. -/
theorem exec_cbIssue (hf : s.fsm = .cbIssue) (hp : onPath op .cbIssue = true) (a v : Byte) (e : Count32) :
    exec (commandOf op a v e) s = .next (issue (busRequest op s) s) := by
  rcases onPath_cbIssue_cases hp with rfl | rfl | rfl | rfl <;>
    simp [commandOf, exec, execInit, execRdreg, execWrreg, execReset, hf] <;> rfl

/-- CB_WAIT takes an answer, records it by its command's row of R119's table, and goes to PWR_DOWN (R122). -/
theorem exec_cbWait_answered {x y : Byte} (hf : s.fsm = .cbWait) (hp : onPath op .cbWait = true)
    (hr : s.cbRsp = some (x, y)) (a v : Byte) (e : Count32) :
    exec (commandOf op a v e) s = .next (goto .pwrDown (recordAnswer op x y { s with cbRsp := none })) := by
  rcases onPath_cbIssue_cases hp with rfl | rfl | rfl | rfl <;>
    simp [commandOf, exec, execInit, execRdreg, execWrreg, execReset, hf, cbWait_some _ hr, recordInit_eq] <;> rfl

theorem exec_initBind (i : Instr) (h : s.fsm = .initBind) : exec i s = .next (initBind s) := by
  rw [exec_eq_stateRule_of_fsm i h (by decide), stateRule, h]

theorem exec_initCfg (i : Instr) (h : s.fsm = .initCfg) : exec i s = .next (initCfg s) := by
  rw [exec_eq_stateRule_of_fsm i h (by decide), stateRule, h]

/-- A command without a body is answered in RESPOND, the step after its acceptance (R126, R127). -/
theorem exec_accept_then_present (i : Instr) (hi : s.fsm = .idle) (hv : s.cmdValid = true)
    (hd : dispatch i.op = .respond) :
    exec i s = .next (accept i.op i.a i.v i.e s) ∧
      exec i (accept i.op i.a i.v i.e s) = .next (present (accept i.op i.a i.v i.e s)) := by
  refine ⟨exec_idle i hi fun ho => ?_, exec_respond i ?_⟩
  · rw [ho] at hd
    cases hd
  · rw [accept_posted _ _ _ _ hv, hd]

/-- A reserved opcode has no body (R100). -/
theorem dispatch_reserved (h : isCommand op = false) : dispatch op = .respond := by
  revert op; decide

end Sys2Proof.Machine
end

section
/-! PROOFS. The statements about single states of the control commands, and the commands without a body. -/

namespace Sys2Proof.Proofs

open Sys2Proof.Machine Sys2Proof.Safety

/-- Settles O15: the two states have one rule for every command, and the levels of INIT_BIND are the idle defaults. -/
theorem initStatesBindAndConfigure : Obligations.InitStatesBindAndConfigure := by
  intro i s
  refine ⟨fun h => ?_, exec_initCfg i, fun hs h => ⟨_, exec_initBind i h, ?_⟩⟩
  · rw [exec_initBind i h, initBind, devAddr_eq_ofNat]
    rfl
  · have ho := blockInv_outputs_eq hs
    rw [h] at ho
    exact (congrArg Prod.fst ho).symm

/-- Settles O16, by R118's table. -/
theorem issueStatePostsRequest : Obligations.IssueStatePostsRequest :=
  fun a v e _ h => ⟨exec_cbIssue (op := 0x1#4) h rfl a v e, exec_cbIssue (op := 0x4#4) h rfl a v e,
    exec_cbIssue (op := 0x5#4) h rfl a v e, exec_cbIssue (op := 0x6#4) h rfl a v e⟩

/-- Settles O17: the hold is every command's, and the records are R119's table. -/
theorem waitStateRecordsAnswer : Obligations.WaitStateRecordsAnswer := by
  intro a v e s h
  refine ⟨fun hr i _ => ?_, fun x y hr => ?_⟩
  · obtain ⟨record, hexec⟩ := exec_cbWait i h
    rw [hexec, cbWait_none record hr]
    rfl
  · exact ⟨exec_cbWait_answered (op := 0x1#4) h rfl hr a v e, exec_cbWait_answered (op := 0x4#4) h rfl hr a v e,
      exec_cbWait_answered (op := 0x5#4) h rfl hr a v e, exec_cbWait_answered (op := 0x6#4) h rfl hr a v e⟩

/-- Settles O18: GETREV has no body. -/
theorem getrevAnswersRevision : Obligations.GetrevAnswersRevision := by
  intro a v e s hi hv
  obtain ⟨haccept, hrespond⟩ := exec_accept_then_present (.getrev a v e) hi hv rfl
  refine ⟨_, haccept, hrespond.trans ?_⟩
  rw [accept_posted _ _ _ _ hv, present, ← hi]
  rfl

/-- Settles O19: a reserved opcode has no body, and acceptance itself sets its results. -/
theorem reservedOpcodeAnsweredIllegal : Obligations.ReservedOpcodeAnsweredIllegal := by
  intro i s _ hop hi hv
  have hreserved : isCommand i.op = false := by
    rw [isCommand_eq_decide, decide_eq_false_iff_not]
    omega
  obtain ⟨haccept, hrespond⟩ := exec_accept_then_present i hi hv (dispatch_reserved hreserved)
  have hvalue : acceptValue i.op s.revision = 0x00 := by
    refine if_neg fun h => ?_
    simp [h, isCommand] at hreserved
  refine ⟨_, haccept, hrespond.trans ?_⟩
  rw [accept_posted _ _ _ _ hv, present, hvalue, acceptStatus, acceptIllegal, hreserved, ← hi]
  rfl

end Sys2Proof.Proofs
end

section
/-! PROOFS. Runs of core steps whatever the turns after them are, and a whole control-bus transaction as one. -/

namespace Sys2Proof.Machine

open Sys2Proof.Safety

variable {s t u : State} {m n : Nat}

/-- The state with another schedule. -/
def withTurns (turns : List Turn) (s : State) : State := { s with schedule := turns }

/-- `n` core steps lead from `s` to `t`, their schedules aside, whenever the next `n` turns are CORE's (R8). -/
def CoreRuns (n : Nat) (s t : State) : Prop :=
  ∀ turns, CoreTurnsNext n (withTurns turns s) → run n (withTurns turns s) = .next (withTurns (turns.drop n) t)

theorem CoreRuns.of_step (h : ∀ turns, coreStep (withTurns turns s) = .next (withTurns turns t)) :
    CoreRuns 1 s t := by
  intro turns hc
  rw [(run_coreStep hc (h turns.tail) rfl).1, run_zero, List.drop_one]

/-- One step of the command in progress. -/
theorem CoreRuns.of_exec (hr : s.rst = false) (hb : s.fsm ≠ .idle)
    (h : ∀ turns, exec (commandOf s.cmdOp s.cmdA s.cmdV s.cmdE) (withTurns turns s) = .next (withTurns turns t)) :
    CoreRuns 1 s t :=
  CoreRuns.of_step fun turns => (coreStep_busy (s := withTurns turns s) hr hb).trans (h turns)

theorem CoreRuns.trans (h₁ : CoreRuns m s t) (h₂ : CoreRuns n t u) : CoreRuns (m + n) s u := by
  intro turns hc
  have hfirst : CoreTurnsNext m (withTurns turns s) := fun turn ht =>
    hc turn (List.take_subset_take_left _ (Nat.le_add_right m n) ht)
  have hrest : CoreTurnsNext n (withTurns (turns.drop m) t) := fun turn ht =>
    hc turn (List.mem_of_mem_drop (List.take_drop ▸ ht))
  rw [run_add (h₁ turns hfirst), h₂ _ hrest, List.drop_drop]

/-- A wait state leaves one core step after its time (R104). -/
theorem Waiting.coreRuns {next : Fsm} (hw : Waiting next s) (hn : cyclesLeft s.dlyUs s.dlyPre = n) :
    CoreRuns (n + 1) s (waited next s.schedule s) := fun turns hc =>
  Waiting.run_leaves (s := withTurns turns s) { hw with } hn hc

/-- A polling state whose test fails holds, its response pulse being over (R98, R168). -/
theorem CoreRuns.of_holding (hr : s.rst = false) (hv : s.respValid = false) (hp : holding s) (n : Nat) :
    CoreRuns n s s := by
  cases n with
  | zero => exact fun _ _ => rfl
  | succ n =>
    intro turns hc
    rw [run_holding (s := withTurns turns s) hr hp hc, ← hv]
    rfl

/-- The state after the acceptance of a command (R99, R100). -/
def accepted (i : Instr) (s : State) : State :=
  goto (dispatch i.op)
    { s with
      cmdOp := i.op, cmdA := i.a, cmdV := i.v, cmdE := i.e, cmdValid := false
      resStatus := acceptStatus i.op, resValue := acceptValue i.op s.revision, resCount := 0
      resIllegal := acceptIllegal i.op }

/-- A posted command other than CAPTURE is accepted in one core step (R99). -/
theorem CoreRuns.of_accept {i : Instr} (hr : s.rst = false) (hi : s.fsm = .idle) (hv : s.cmdValid = true)
    (hd : decode s.cmdWord = i) (ho : i.op ≠ 0x2#4) : CoreRuns 1 s (accepted i s) := by
  subst hd
  refine CoreRuns.of_step fun turns => ?_
  rw [coreStep_idle_posted (s := withTurns turns s) hr hi hv,
    exec_idle (s := withTurns turns s) (decode (withTurns turns s).cmdWord) hi fun h => absurd h ho,
    accept_posted (s := withTurns turns s) _ _ _ _ hv]
  rfl

/-! ## A control-bus transaction -/

/-- The state in CB_WAIT of a command that was in PU_DRIVE: powered up, the timer run out, the request posted. -/
def requested (s : State) : State :=
  issue (busRequest s.cmdOp s) (waited .cbIssue s.schedule (puDrive s))

/-- The state after CBUS's answer (R47). -/
def withAnswer (x y : Byte) (s : State) : State := { s with cbReq := false, cbRsp := some (x, y) }

/-- The state in PWR_DOWN after CB_WAIT took the answer (R119). -/
def answerTaken (x y : Byte) (s : State) : State :=
  goto .pwrDown (recordAnswer s.cmdOp x y { s with cbRsp := none })

theorem waitSuccessor_puWait_eq_cbIssue {op : Opcode} (h : onPath op .cbIssue = true) :
    waitSuccessor op .puWait = some .cbIssue := by
  revert op; decide

/-- From PU_DRIVE a command with a transaction powers up, waits, posts its request and then polls (R105, R106, R118). -/
theorem coreRuns_requested (hr : s.rst = false) (hf : s.fsm = .puDrive) (hp : onPath s.cmdOp .cbIssue = true)
    (hrsp : s.cbRsp = none) (k : Nat) : CoreRuns (12 * Config.cycPerUs + 3 + k) s (requested s) := by
  have hdrive : CoreRuns 1 s (puDrive s) :=
    CoreRuns.of_step fun turns => coreStep_puDrive (s := withTurns turns s) hr hf
  have hwait : Waiting .cbIssue (puDrive s) := ⟨hr, waitSuccessor_puWait_eq_cbIssue hp, fun _ => rfl⟩
  have hissue : CoreRuns 1 (waited .cbIssue s.schedule (puDrive s)) (requested s) :=
    CoreRuns.of_exec hr nofun fun turns =>
      exec_cbIssue (s := withTurns turns (waited .cbIssue s.schedule (puDrive s))) rfl hp _ _ _
  have hpoll := CoreRuns.of_holding (s := requested s) hr rfl (.inr (.inl ⟨rfl, hrsp⟩)) k
  have hcount : 1 + (12 * Config.cycPerUs + 1) + 1 + k = 12 * Config.cycPerUs + 3 + k := by omega
  exact hcount ▸ ((hdrive.trans (hwait.coreRuns (cyclesLeft_full 12))).trans hissue).trans hpoll

/-- CB_WAIT with an answer, PWR_DOWN and RESPOND (R108, R111, R119). -/
theorem coreRuns_answered {x y : Byte} (hr : s.rst = false) (hf : s.fsm = .cbWait) (hp : onPath s.cmdOp .cbWait = true)
    (hrsp : s.cbRsp = some (x, y)) : CoreRuns 3 s (present (pwrDown (answerTaken x y s))) := by
  have htake : CoreRuns 1 s (answerTaken x y s) :=
    CoreRuns.of_exec hr (by simp [hf]) fun turns =>
      exec_cbWait_answered (s := withTurns turns s) hf hp hrsp _ _ _
  have hdown : CoreRuns 1 (answerTaken x y s) (pwrDown (answerTaken x y s)) :=
    CoreRuns.of_exec hr nofun fun turns => exec_pwrDown (s := withTurns turns (answerTaken x y s)) _ rfl
  have hrespond : CoreRuns 1 (pwrDown (answerTaken x y s)) (present (pwrDown (answerTaken x y s))) :=
    CoreRuns.of_step fun turns => coreStep_respond (s := withTurns turns (pwrDown (answerTaken x y s))) rfl hr
  exact (htake.trans hdown).trans hrespond

/-- A run of CORE, then CBUS's answer, then CORE again with no turns left (R8, R47). -/
theorem run_answered {x y : Byte} (h₁ : CoreRuns m s t) (hturns : s.schedule = coreTurns m ++ [.env (.cbus x y)])
    (hreq : t.cbReq = true) (hrsp : t.cbRsp = none) (h₂ : CoreRuns n (withAnswer x y t) u) :
    run (m + (n + 1)) s = .next (withTurns [] u) := by
  have hdrop : s.schedule.drop m = [.env (.cbus x y)] := by
    rw [hturns, List.drop_left' (by simp [coreTurns])]
  have hcore : run m s = .next (withTurns [.env (.cbus x y)] t) := by
    rw [← hdrop]
    exact h₁ s.schedule (coreTurnsNext_of_append hturns le_rfl)
  have hcbus : step (withTurns [.env (.cbus x y)] t) = .next (withTurns [] (withAnswer x y t)) := by
    rw [step_env rfl, envStep, cbusAnswer]
    simp [withTurns, withAnswer, hreq, hrsp]
  rw [run_add hcore, run_step hcbus, h₂ [] (coreTurnsNext_of_empty rfl n), List.drop_nil]

/-- The state at the end of a command that was in PU_DRIVE and whose request was answered. -/
def answered (x y : Byte) (s : State) : State :=
  present (pwrDown (answerTaken x y (withAnswer x y (requested s))))

/-- A control-bus command from acceptance to response, `m` core steps leading to PU_DRIVE and `k` polls of CB_WAIT
(R112, R201). -/
theorem run_busCommand {x y : Byte} {k : Nat} (hpre : CoreRuns m s t) (hr : t.rst = false) (hf : t.fsm = .puDrive)
    (hp : onPath t.cmdOp .cbIssue = true) (hrsp : t.cbRsp = none)
    (hturns : s.schedule = coreTurns (12 * Config.cycPerUs + 3 + m + k) ++ [.env (.cbus x y)]) :
    run (12 * Config.cycPerUs + 7 + m + k) s = .next (withTurns [] (answered x y t)) := by
  have hcount : m + (12 * Config.cycPerUs + 3 + k) = 12 * Config.cycPerUs + 3 + m + k := by omega
  have hbefore : CoreRuns (12 * Config.cycPerUs + 3 + m + k) s (requested t) :=
    hcount ▸ hpre.trans (coreRuns_requested hr hf hp hrsp k)
  have hafter := coreRuns_answered (s := withAnswer x y (requested t)) hr rfl hp rfl
  calc run (12 * Config.cycPerUs + 7 + m + k) s
      = run (12 * Config.cycPerUs + 3 + m + k + (3 + 1)) s := congrArg (run · s) (by omega)
    _ = _ := run_answered (t := requested t) hbefore hturns rfl hrsp hafter

/-- RDREG, WRREG and RESET, which acceptance leads to PU_DRIVE (R123, R124, R125): the command ends in IDLE with the
answer taken. -/
theorem run_fromAcceptance {i : Instr} {x y : Byte} {k : Nat} (hi : s.fsm = .idle) (hr : s.rst = false)
    (hv : s.cmdValid = true) (hrsp : s.cbRsp = none) (hd : decode s.cmdWord = i) (hb : dispatch i.op = .puDrive)
    (hp : onPath i.op .cbIssue = true)
    (hturns : s.schedule = coreTurns (12 * Config.cycPerUs + 4 + k) ++ [.env (.cbus x y)]) :
    run (12 * Config.cycPerUs + 8 + k) s =
      .next { answered x y (accepted i s) with fsm := s.fsm, cbRsp := s.cbRsp, schedule := [] } := by
  have hcapture : i.op ≠ 0x2#4 := fun ho => by simp [ho, onPath] at hp
  rw [run_busCommand (CoreRuns.of_accept hr hi hv hd hcapture) hr hb hp hrsp hturns, hi, hrsp]
  rfl

end Sys2Proof.Machine
end

section
/-! PROOFS. The control-bus commands from acceptance to response. -/

namespace Sys2Proof.Proofs

open Sys2Proof.Machine Sys2Proof.Safety

/-- Settles O29: three steps lead INIT to PU_DRIVE, and the transaction is the revision read. -/
theorem initRunsToResponse : Obligations.InitRunsToResponse := by
  intro s a v e k x y hi hr hv hrsp hd hturns
  have haccept := CoreRuns.of_accept hr hi hv hd nofun
  have hbind : CoreRuns 1 (accepted (.init a v e) s) (initBind (accepted (.init a v e) s)) :=
    CoreRuns.of_exec hr nofun fun turns => exec_initBind (s := withTurns turns (accepted (.init a v e) s)) _ rfl
  have hcfg : CoreRuns 1 (initBind (accepted (.init a v e) s)) (initCfg (initBind (accepted (.init a v e) s))) :=
    CoreRuns.of_exec hr nofun fun turns =>
      exec_initCfg (s := withTurns turns (initBind (accepted (.init a v e) s))) _ rfl
  refine (run_busCommand ((haccept.trans hbind).trans hcfg) hr rfl rfl hrsp hturns).trans ?_
  rw [← devAddr_eq_ofNat, hi, hrsp]
  rfl

/-- Settles O30: the transaction is the read of register A. -/
theorem rdregRunsToResponse : Obligations.RdregRunsToResponse :=
  fun _ _ _ _ _ _ _ hi hr hv hrsp hd => run_fromAcceptance hi hr hv hrsp hd rfl rfl

/-- Settles O31: the transaction is the write of V to register A. -/
theorem wrregRunsToResponse : Obligations.WrregRunsToResponse :=
  fun _ _ _ _ _ _ _ hi hr hv hrsp hd => run_fromAcceptance hi hr hv hrsp hd rfl rfl

/-- Settles O32: the transaction is the broadcast of the reset command. -/
theorem resetRunsToResponse : Obligations.ResetRunsToResponse :=
  fun _ _ _ _ _ _ _ hi hr hv hrsp hd => run_fromAcceptance hi hr hv hrsp hd rfl rfl

end Sys2Proof.Proofs
end

section
/-! PROOFS. Runs that are never reset: what a step leaves of the reset input and of the schedule. -/

namespace Sys2Proof.Machine

open Sys2Proof.Safety

variable {s t : State} {e : EnvStep}

/-- A core step leaves the reset input and the schedule (R51, R182). -/
theorem coreStep_frame (h : coreStep s = .next t) : t.rst = s.rst ∧ t.schedule = s.schedule := by
  rcases coreStep_cases h with ⟨_, rfl⟩ | ⟨_, m⟩
  · exact ⟨rfl, rfl⟩
  · obtain ⟨_, _, _, hrst, _, hturns⟩ := m.envCells_kept
    exact ⟨hrst, hturns⟩

/-- HOST alone drives the reset input, and no agent moves the schedule (R51, R182). -/
theorem envStep_frame (h : envStep e s = .next t) :
    (t.rst = s.rst ∨ e = .hostRst t.rst) ∧ t.schedule = s.schedule := by
  rcases envStep_cases h with ⟨_, _, _, rfl⟩ | ⟨_, rfl⟩ | ⟨_, rfl⟩ | ⟨_, he, rfl⟩ | ⟨_, _, rfl⟩ |
    ⟨_, _, _, _, _, rfl⟩ | ⟨_, _, _, _, _, rfl⟩ | ⟨_, _, _, _, _, rfl⟩ | ⟨_, _, _, rfl⟩ | ⟨_, _, _, rfl⟩
  case inr.inr.inr.inl => exact ⟨.inr he, rfl⟩
  all_goals exact ⟨.inl rfl, rfl⟩

/-- The block is out of reset and no turn to come raises the reset input. -/
def NeverReset (s : State) : Prop := s.rst = false ∧ .env (.hostRst true) ∉ s.schedule

theorem step_keeps_neverReset (hs : NeverReset s) (h : step s = .next t) : NeverReset t := by
  obtain ⟨hrst, hturns⟩ := hs
  match hq : s.schedule with
  | [] =>
    rw [step_empty hq] at h
    obtain ⟨hrst', hturns'⟩ := coreStep_frame h
    exact ⟨hrst'.trans hrst, hturns' ▸ hturns⟩
  | .core :: rest =>
    rw [step_core hq] at h
    rw [hq] at hturns
    obtain ⟨hrst', hturns'⟩ := coreStep_frame h
    exact ⟨hrst'.trans hrst, hturns' ▸ List.not_mem_of_not_mem_cons hturns⟩
  | .env e :: rest =>
    rw [step_env hq] at h
    rw [hq] at hturns
    obtain ⟨hrst', hturns'⟩ := envStep_frame h
    refine ⟨?_, hturns' ▸ List.not_mem_of_not_mem_cons hturns⟩
    rcases hrst' with hkept | rfl
    · exact hkept.trans hrst
    · refine Bool.eq_false_iff.mpr fun hraised => hturns ?_
      rw [hraised]
      exact List.mem_cons_self

/-- What every step keeps, a run keeps. -/
theorem run_keeps {P : State → Prop} (hstep : ∀ s t, P s → step s = .next t → P t) {n : Nat} (hs : P s)
    (h : run n s = .next t) : P t := by
  induction n generalizing s with
  | zero => cases h; exact hs
  | succ n ih =>
    obtain ⟨s', hfirst, hrest⟩ := run_next_cases h
    exact ih (hstep _ _ hs hfirst) hrest

end Sys2Proof.Machine
end

section
/-! PROOFS. The statement about runs from a clean launch. -/

namespace Sys2Proof.Proofs

open Sys2Proof.Machine Sys2Proof.Safety

/-- Settles O39: both invariants hold at the launch, and every step of a run that is never reset keeps them. -/
theorem cleanRunsStayClean : Obligations.CleanRunsStayClean := by
  intro s t n hs hturns h
  have hrst : s.rst = false := by rw [hs.1]; rfl
  obtain ⟨hblock, hclean⟩ := cleanLaunchMeetsInvariants s hs
  obtain ⟨hblock', hclean', hrst', _⟩ := run_keeps (P := fun s => BlockInv s ∧ CleanHandshakes s ∧ NeverReset s)
    (fun s t ⟨hb, hc, hn⟩ hst =>
      ⟨stepKeepsBlockInv s t hb hst, stepKeepsCleanHandshakes s t hn.1 hc hst, step_keeps_neverReset hn hst⟩)
    ⟨hblock, hclean, hrst, hturns⟩ h
  exact ⟨hblock', hclean', hrst'⟩

end Sys2Proof.Proofs
end

section
/-! PROOFS. CAPTURE's states: none of them but IDLE and PU_WAIT depends on the command, and the bits of a sample. -/

namespace Sys2Proof.Machine

variable {s : State}

/-- In a state that no command decides, every command's step is what the table answers for that state. -/
theorem exec_of_stateRule (i : Instr) {f : Fsm} {o : Result} (h : s.fsm = f)
    (hn : f ∉ [Fsm.idle, .puWait, .cbIssue, .cbWait]) (ho : stateRule { s with fsm := f } = o) : exec i s = o := by
  subst h
  exact (exec_eq_stateRule_of_fsm i rfl hn).trans ho

/-- EXP_WAIT_DRDY goes on when DATA_RDY is 1, and holds else (R134). -/
theorem exec_expWaitDrdy (i : Instr) (h : s.fsm = .expWaitDrdy) :
    exec i s = .next (if s.dataRdy then goto .rdStrobeHi s else hold s) := by
  rw [exec_eq_stateRule_of_fsm i h (by decide), stateRule, h]
  rfl

/-- RD_LOCK_WAIT goes on under the grant, and holds else (R142). -/
theorem exec_rdLockWait (i : Instr) (h : s.fsm = .rdLockWait) :
    exec i s = .next (if s.lockGnt then goto .pxCsLo s else hold s) := by
  rw [exec_eq_stateRule_of_fsm i h (by decide), stateRule, h]
  rfl

theorem exec_pxWaitMsb (i : Instr) (h : s.fsm = .pxWaitMsb) : exec i s = .next (pxWaitMsb s) := by
  rw [exec_eq_stateRule_of_fsm i h (by decide), stateRule, h]

theorem exec_pxWaitLsb (i : Instr) (h : s.fsm = .pxWaitLsb) : exec i s = .next (pxWaitLsb s) := by
  rw [exec_eq_stateRule_of_fsm i h (by decide), stateRule, h]

theorem pxWaitMsb_nil (h : s.pbRxq = []) : pxWaitMsb s = hold s := by
  simp [pxWaitMsb, rxPop_nil h]

theorem pxWaitLsb_nil (h : s.pbRxq = []) : pxWaitLsb s = hold s := by
  simp [pxWaitLsb, rxPop_nil h]

theorem pxWaitMsb_cons {b : Byte} {rest : List Byte} (h : s.pbRxq = b :: rest) :
    pxWaitMsb s = goto .pxStrobeLo { s with pbRxq := rest, msb := b } := by
  simp [pxWaitMsb, rxPop_cons h]

theorem pxWaitLsb_cons {b : Byte} {rest : List Byte} (h : s.pbRxq = b :: rest) :
    pxWaitLsb s = goto .pxCsHi { s with pbRxq := rest, lsb := b } := by
  simp [pxWaitLsb, rxPop_cons h]

/-! ## The bits of a sample (R155) -/

/-- Bits 14 to 7 of a sample are MSB. -/
theorem sample16_extract_msb (msb lsb : Byte) : (sample16 msb lsb).extractLsb' 7 8 = msb := by
  apply BitVec.eq_of_toNat_eq
  rw [BitVec.extractLsb'_toNat, sample16_toNat, Nat.shiftRight_eq_div_pow]
  omega

/-- Bits 6 to 0 of a sample are LSB[7:1]. -/
theorem sample16_extract_lsb (msb lsb : Byte) : (sample16 msb lsb).extractLsb' 0 7 = lsb.extractLsb' 1 7 := by
  apply BitVec.eq_of_toNat_eq
  rw [BitVec.extractLsb'_toNat, BitVec.extractLsb'_toNat, sample16_toNat, Nat.shiftRight_eq_div_pow,
    Nat.shiftRight_eq_div_pow]
  omega

/-- A sample tells MSB and LSB[7:1], and no more. -/
theorem sample16_eq_iff (msb lsb msb' lsb' : Byte) : sample16 msb lsb = sample16 msb' lsb' ↔
    msb = msb' ∧ lsb.extractLsb' 1 7 = lsb'.extractLsb' 1 7 := by
  constructor
  · intro h
    rw [← sample16_extract_msb msb lsb, ← sample16_extract_lsb msb lsb, h]
    exact ⟨sample16_extract_msb msb' lsb', sample16_extract_lsb msb' lsb'⟩
  · rintro ⟨rfl, h⟩
    have hlow : lsb.toNat / 2 % 128 = lsb'.toNat / 2 % 128 := by
      simpa only [BitVec.extractLsb'_toNat, Nat.shiftRight_eq_div_pow] using congrArg BitVec.toNat h
    apply BitVec.eq_of_toNat_eq
    rw [sample16_toNat, sample16_toNat]
    omega

/-- MSB[7] is clear in the bytes below 128. -/
theorem getLsbD_seven_eq_false_iff (b : Byte) : b.getLsbD 7 = false ↔ b.toNat < 128 := by
  rw [← BitVec.msb_eq_getLsbD_last, BitVec.msb_eq_false_iff_two_mul_lt]
  omega

end Sys2Proof.Machine
end

section
/-! PROOFS. The statements about CAPTURE's states and about a sample. -/

namespace Sys2Proof.Proofs

open Sys2Proof.Machine Sys2Proof.Safety

/-- Settles O24: RD_UNLOCK has one rule for every command, and the invariant has the count there. -/
theorem unlockRecordsPixelCount : Obligations.UnlockRecordsPixelCount :=
  fun i _ h => ⟨exec_of_stateRule i h (by decide) rfl, fun hs => BitVec.eq_of_toNat_eq (hs.unlock h)⟩

/-- Settles O57: the sample as a number, and its two parts. -/
theorem sampleReassembly : Obligations.SampleReassembly := by
  intro m l
  have hnum := sample16_toNat m l
  refine ⟨hnum, sample16_getLsbD_fifteen m l, sample16_extract_msb m l, sample16_extract_lsb m l, ?_, ?_,
    sample16_eq_iff m l⟩
  · omega
  · rw [getLsbD_seven_eq_false_iff, hnum]
    omega

/-- Settles O11: the test of `execCapture`, by the bit that is 0. -/
theorem unconfiguredCaptureRefused : Obligations.UnconfiguredCaptureRefused := by
  intro a v e s hi hv hoff
  rcases hoff with hoff | hoff <;> simp [exec, execCapture, hi, hv, hoff]

/-- Settles O20: EXP_OPEN and EXP_CLOSE have one rule for every command, and EXP_WAIT_DRDY tests DATA_RDY. -/
theorem exposureStatesGateShutter : Obligations.ExposureStatesGateShutter := by
  intro i s
  refine ⟨fun h => exec_of_stateRule i h (by decide) rfl, fun h => exec_of_stateRule i h (by decide) rfl,
    fun h hrdy => ?_, fun h hrdy => ?_⟩
  · rw [exec_expWaitDrdy i h, if_pos hrdy]
    rfl
  · rw [exec_expWaitDrdy i h, if_neg (Bool.eq_false_iff.mp hrdy)]
    rfl

/-- Settles O21: three states have one rule for every command, and RD_LOCK_WAIT tests the grant. -/
theorem readoutPreambleStates : Obligations.ReadoutPreambleStates := by
  intro i s
  refine ⟨fun h => exec_of_stateRule i h (by decide) rfl, fun h => exec_of_stateRule i h (by decide) rfl,
    fun h => exec_of_stateRule i h (by decide) rfl, fun h hgnt => ?_, fun h hgnt => ?_⟩
  · rw [exec_rdLockWait i h, if_pos hgnt]
    rfl
  · rw [exec_rdLockWait i h, if_neg (Bool.eq_false_iff.mp hgnt)]
    rfl

/-- Settles O22: five states have one rule for every command, and the two polls hold on an empty queue or pop its
head. -/
theorem pixelCycleStates : Obligations.PixelCycleStates := by
  intro i s
  refine ⟨fun h => exec_of_stateRule i h (by decide) rfl, fun h => exec_of_stateRule i h (by decide) rfl,
    fun h => exec_of_stateRule i h (by decide) rfl, fun h => exec_of_stateRule i h (by decide) rfl,
    fun h => exec_of_stateRule i h (by decide) rfl, fun h hq => ?_, fun b rest h hq => ?_, fun b rest h hq => ?_⟩
  · rcases h with h | h
    · rw [exec_pxWaitMsb i h, pxWaitMsb_nil hq]
      rfl
    · rw [exec_pxWaitLsb i h, pxWaitLsb_nil hq]
      rfl
  · rw [exec_pxWaitMsb i h, pxWaitMsb_cons hq]
    rfl
  · rw [exec_pxWaitLsb i h, pxWaitLsb_cons hq]
    rfl

end Sys2Proof.Proofs
end

section
/-! PROOFS. The exposure and the readout's preamble as runs of CORE: in each a wait is loaded, counted and left. -/

namespace Sys2Proof.Machine

open Sys2Proof.Safety

variable {s t : State} {n : Nat}

/-- One core step in a state that no command decides. -/
theorem CoreRuns.of_stateRule {f : Fsm} (hr : s.rst = false) (h : s.fsm = f)
    (hn : f ∉ [Fsm.idle, .puWait, .cbIssue, .cbWait])
    (ht : ∀ turns, stateRule { withTurns turns s with fsm := f } = .next (withTurns turns t)) : CoreRuns 1 s t :=
  CoreRuns.of_exec hr (fun hi => hn (by simp [← h, hi])) fun turns =>
    exec_of_stateRule (s := withTurns turns s) _ h hn (ht turns)

/-- A run of CORE whose turns the schedule begins with. -/
theorem CoreRuns.run_turns {rest : List Turn} (h : CoreRuns n s t) (hturns : s.schedule = coreTurns n ++ rest) :
    run n s = .next (withTurns rest t) := by
  have hdrop : s.schedule.drop n = rest := by rw [hturns, List.drop_left' (by simp [coreTurns])]
  rw [← hdrop]
  exact h s.schedule (coreTurnsNext_of_append hturns le_rfl)

theorem withTurns_self {turns : List Turn} (h : s.schedule = turns) : withTurns turns s = s := by
  subst h
  rfl

/-- A run of CORE over the empty schedule. -/
theorem CoreRuns.run_empty (h : CoreRuns n s t) (hturns : s.schedule = []) : run n s = .next (withTurns [] t) := by
  have hrun := h [] (coreTurnsNext_of_empty rfl n)
  rwa [List.drop_nil, withTurns_self hturns] at hrun

/-! ## The exposure -/

/-- The state in EXP_CLOSE of a command that was in EXP_OPEN: the shutter open, the hold over. -/
def held (s : State) : State := waited .expClose s.schedule (expOpen s)

/-- The state in RD_STROBE_HI of a command that was in EXP_OPEN: the shutter closed again. -/
def exposed (s : State) : State := goto .rdStrobeHi (expClose (held s))

theorem coreRuns_expOpen (hr : s.rst = false) (hf : s.fsm = .expOpen) : CoreRuns 1 s (expOpen s) :=
  CoreRuns.of_stateRule hr hf (by decide) fun _ => rfl

/-- EXP_HOLD waits for EXP_CLOSE (R132). -/
theorem waiting_expOpen (hr : s.rst = false) : Waiting .expClose (expOpen s) := ⟨hr, rfl, fun _ => rfl⟩

/-- The hold is `max(CMD_E, 1)` microseconds (R87, R131). -/
theorem cyclesLeft_expOpen (s : State) :
    cyclesLeft (expOpen s).dlyUs (expOpen s).dlyPre = max s.cmdE.toNat 1 * Config.cycPerUs :=
  (cyclesLeft_full (holdUs s.cmdE)).trans (by rw [holdUs_toNat])

/-- The hold of the shutter, from EXP_OPEN to EXP_CLOSE (R131, R132). -/
theorem coreRuns_held (hr : s.rst = false) (hf : s.fsm = .expOpen) :
    CoreRuns (max s.cmdE.toNat 1 * Config.cycPerUs + 2) s (held s) := by
  have hcount : 1 + (max s.cmdE.toNat 1 * Config.cycPerUs + 1) = max s.cmdE.toNat 1 * Config.cycPerUs + 2 := by omega
  exact hcount ▸ (coreRuns_expOpen hr hf).trans ((waiting_expOpen hr).coreRuns (cyclesLeft_expOpen s))

theorem coreRuns_expClose (hr : s.rst = false) : CoreRuns 1 (held s) (expClose (held s)) :=
  CoreRuns.of_stateRule (f := .expClose) hr rfl (by decide) fun _ => rfl

/-- EXP_WAIT_DRDY goes on at once when DATA_RDY is 1 (R134). -/
theorem coreRuns_ready (hr : s.rst = false) (hf : s.fsm = .expWaitDrdy) (hrdy : s.dataRdy = true) :
    CoreRuns 1 s (goto .rdStrobeHi s) :=
  CoreRuns.of_exec hr (by simp [hf]) fun turns => by
    rw [exec_expWaitDrdy (s := withTurns turns s) _ hf, if_pos (show (withTurns turns s).dataRdy = true from hrdy)]
    rfl

/-- The exposure with DATA_RDY 1 (R131 to R134). -/
theorem coreRuns_exposed (hr : s.rst = false) (hf : s.fsm = .expOpen) (hrdy : s.dataRdy = true) :
    CoreRuns (max s.cmdE.toNat 1 * Config.cycPerUs + 4) s (exposed s) :=
  ((coreRuns_held hr hf).trans (coreRuns_expClose hr)).trans (coreRuns_ready hr rfl hrdy)

/-! ## The preamble -/

/-- The state in RD_STROBE_LO of a command that was in RD_STROBE_HI. -/
def strobed (s : State) : State := waited .rdStrobeLo s.schedule (rdStrobeHi s)

/-- The state in RD_LOCK of a command that was in RD_STROBE_HI. -/
def settled (s : State) : State := waited .rdLock s.schedule (rdStrobeLo (strobed s))

/-- The strobe and the settling before the lock (R137 to R141). -/
theorem coreRuns_preamble (hr : s.rst = false) (hf : s.fsm = .rdStrobeHi) :
    CoreRuns (3 * Config.cycPerUs + 5) s (rdLock (settled s)) := by
  have hhigh : CoreRuns 1 s (rdStrobeHi s) := CoreRuns.of_stateRule hr hf (by decide) fun _ => rfl
  have hstrobe : Waiting .rdStrobeLo (rdStrobeHi s) := ⟨hr, rfl, fun _ => rfl⟩
  have hlow : CoreRuns 1 (strobed s) (rdStrobeLo (strobed s)) :=
    CoreRuns.of_stateRule (f := .rdStrobeLo) hr rfl (by decide) fun _ => rfl
  have hsettle : Waiting .rdLock (rdStrobeLo (strobed s)) := ⟨hr, rfl, fun _ => rfl⟩
  have hlock : CoreRuns 1 (settled s) (rdLock (settled s)) :=
    CoreRuns.of_stateRule (f := .rdLock) hr rfl (by decide) fun _ => rfl
  have hcount : 1 + (1 * Config.cycPerUs + 1) + 1 + (2 * Config.cycPerUs + 1) + 1 = 3 * Config.cycPerUs + 5 := by
    omega
  exact hcount ▸ (((hhigh.trans (hstrobe.coreRuns (cyclesLeft_full 1))).trans hlow).trans
    (hsettle.coreRuns (cyclesLeft_full 2))).trans hlock

end Sys2Proof.Machine
end

section
/-! PROOFS. The statement about the shutter. -/

namespace Sys2Proof.Proofs

open Sys2Proof.Machine Sys2Proof.Safety

/-- Settles O27: SHUTTER is 1 after EXP_OPEN's step, while EXP_HOLD counts and in EXP_CLOSE, whose step ends it. -/
theorem shutterPulseLength : Obligations.ShutterPulseLength := by
  intro s hturns hr hf h
  refine ⟨fun n h1 hn => ?_, ?_⟩
  · rcases Nat.lt_or_eq_of_le hn with hlt | rfl
    · obtain ⟨m, rfl⟩ := Nat.exists_eq_add_of_le' h1
      have hm : m ≤ cyclesLeft (expOpen s).dlyUs (expOpen s).dlyPre := by
        rw [cyclesLeft_expOpen]
        exact Nat.le_of_lt_succ (Nat.lt_of_succ_lt_succ hlt)
      obtain ⟨_, _, _, hrun⟩ := (waiting_expOpen hr).run_counts (coreTurnsNext_of_empty hturns m) hm
      have hfirst := (coreRuns_expOpen hr hf).run_empty hturns
      rw [Nat.add_comm, run_add hfirst, withTurns_self (s := expOpen s) hturns, hrun]
      exact ⟨_, rfl, rfl⟩
    · exact ⟨_, (coreRuns_held hr hf).run_empty hturns, rfl⟩
  · exact ⟨_, ((coreRuns_held hr hf).trans (coreRuns_expClose hr)).run_empty hturns, rfl, rfl⟩

end Sys2Proof.Proofs
end

section
/-! PROOFS. The readout loop: one pixel cycle reads the next two bytes of the stream, and PX_COMMIT counts and stores
them. -/

namespace Sys2Proof.Machine

open Sys2Proof.Safety

variable {s : State} {stream : Nat → Byte}

/-! ## The receive queue as a window of the stream -/

/-- `len` bytes of the stream from byte `first` on. -/
def window (stream : Nat → Byte) (first len : Nat) : List Byte :=
  (List.range len).map fun j => stream (first + j)

/-- The queue at the start is the window at byte 0 (R160). -/
theorem window_byteStream (queue : List Byte) (bytes : Nat → Byte) :
    window (byteStream queue bytes) 0 queue.length = queue := by
  refine List.ext_getElem (by simp [window]) fun j _ hj => ?_
  simp [window, byteStream, hj]

/-- The bytes clocked in come after those of the queue (R160). -/
theorem byteStream_length_add (queue : List Byte) (bytes : Nat → Byte) (j : Nat) :
    byteStream queue bytes (queue.length + j) = bytes j := by
  simp [byteStream]

/-- Two bytes clocked in make the two bytes at the head the next pair (R43, R64). -/
theorem window_append_pair (stream : Nat → Byte) (first len : Nat) :
    window stream first len ++ [stream (first + len), stream (first + len + 1)] =
      stream first :: stream (first + 1) :: window stream (first + 2) len := by
  have hlong : window stream first len ++ [stream (first + len), stream (first + len + 1)] =
      window stream first (len + 2) := by
    simp [window, List.range_succ, Nat.add_assoc]
  rw [hlong, window, List.range_succ_eq_map, List.range_succ_eq_map]
  simp [window, Function.comp_def, Nat.add_comm, Nat.add_left_comm]

/-! ## The stores -/

/-- The buffer with the first `n` samples of the stream stored. -/
def storeSamples (stream : Nat → Byte) (m : List (Nat × PixWord)) : Nat → List (Nat × PixWord)
  | 0 => m
  | n + 1 => Memory.write (storeSamples stream m n) n (streamSample stream n)

theorem read_storeSamples_of_lt (m : List (Nat × PixWord)) {n i : Nat} (h : i < n) :
    Memory.read (storeSamples stream m n) i = some (streamSample stream i) := by
  induction n with
  | zero => simp at h
  | succ n ih =>
    rcases Nat.lt_succ_iff_lt_or_eq.mp h with hlt | rfl
    · exact (Memory.read_write_other _ _ (Nat.ne_of_lt hlt)).trans (ih hlt)
    · exact Memory.read_write_same _ _ _

theorem read_storeSamples_of_le (m : List (Nat × PixWord)) {n i : Nat} (h : n ≤ i) :
    Memory.read (storeSamples stream m n) i = Memory.read m i := by
  induction n with
  | zero => rfl
  | succ n ih => exact (Memory.read_write_other _ _ (by omega)).trans (ih (by omega))

/-- The state after `k` pairs: the first four are discarded, each later one is a sample stored (R150, R152). -/
def pairsCounted (stream : Nat → Byte) (k : Nat) (s : State) : State :=
  { s with
    discCnt := BitVec.ofNat 3 (min k 4)
    pixCnt := BitVec.ofNat 11 (k - 4)
    pixbuf := storeSamples stream s.pixbuf (k - 4)
    history := storeEvents stream (k - 4) ++ s.history }

/-- The state in PX_COMMIT of pair `k`: the pair in MSB and LSB, the lines at their levels outside a transfer. -/
def pairRead (stream : Nat → Byte) (k len : Nat) (turns : List Turn) (s : State) : State :=
  { s with
    fsm := .pxCommit, adcCsN := true, read := false, respValid := false
    msb := stream (2 * k), lsb := stream (2 * k + 1)
    pbRxq := window stream (2 * k + 2) len
    schedule := turns }

/-- Pair `k` is one of the first four: PX_COMMIT discards it (R150). -/
theorem pxCommit_pairRead_discard {k : Nat} (hk : k < 4) (len : Nat) (turns : List Turn) (s : State) :
    pxCommit (pairRead stream k len turns (pairsCounted stream k s)) =
      goto .pxCsLo (pairRead stream k len turns (pairsCounted stream (k + 1) s)) := by
  have hfew : (BitVec.ofNat 3 (min k 4)).toNat < 4 := by
    rw [BitVec.toNat_ofNat]
    omega
  have hmin : min k 4 = k ∧ min (k + 1) 4 = k + 1 := by omega
  have hnone : k - 4 = 0 ∧ k + 1 - 4 = 0 := by omega
  rw [pxCommit_discard hfew]
  simp only [pairRead, pairsCounted, hmin, hnone, BitVec.ofNat_add]
  rfl

/-- Pair `n + 4` is sample `n`: PX_COMMIT stores it at index `n` (R150, R152). -/
theorem pxCommit_pairRead_store {n : Nat} (hn : n < 1024) (len : Nat) (turns : List Turn) (s : State) :
    pxCommit (pairRead stream (n + 4) len turns (pairsCounted stream (n + 4) s)) =
      goto (if n = 1023 then .rdUnlock else .pxCsLo)
        (pairRead stream (n + 4) len turns (pairsCounted stream (n + 5) s)) := by
  have hfull : min (n + 4) 4 = 4 ∧ min (n + 5) 4 = 4 := by omega
  have hcnt : (BitVec.ofNat 11 n).toNat = n := Nat.mod_eq_of_lt (by omega)
  have hindex : pixIndex (BitVec.ofNat 11 n) = BitVec.ofNat 10 n := by rw [pixIndex_eq_ofNat, hcnt]
  have hnat : (BitVec.ofNat 10 n).toNat = n := Nat.mod_eq_of_lt hn
  have hnext : n + 5 - 4 = n + 1 := rfl
  rw [pxCommit_store (by simp [pairRead, pairsCounted])]
  simp only [pairRead, pairsCounted, memWrite, hfull, Nat.add_sub_cancel, hcnt, hindex, hnat, hnext, BitVec.ofNat_add]
  rfl

/-- PX_COMMIT counts one pair more and ends the loop with pair 1027 (R150, R153). -/
theorem pxCommit_pairRead {k : Nat} (hk : k < 1028) (len : Nat) (turns : List Turn) (s : State) :
    pxCommit (pairRead stream k len turns (pairsCounted stream k s)) =
      goto (if k = 1027 then .rdUnlock else .pxCsLo)
        (pairRead stream k len turns (pairsCounted stream (k + 1) s)) := by
  rcases Nat.lt_or_ge k 4 with hfew | hall
  · rw [pxCommit_pairRead_discard hfew, if_neg (by omega)]
  · obtain ⟨n, rfl⟩ := Nat.exists_eq_add_of_le' hall
    rw [pxCommit_pairRead_store (by omega)]
    simp only [Nat.reduceEqDiff]

/-! ## The cycles -/

/-- PIXBUS clocks the two bytes of a transfer while it is enabled (R43). -/
theorem run_pixbus_pair {b c : Byte} {turns : List Turn} (hen : s.pbEn = true) (hth : s.pbRxth = true) (n : Nat) :
    run 2 { s with
        pbTxpend := n + 2, schedule := .env (.pixbus b) :: .env (.pixbus c) :: turns } =
      .next { s with pbTxpend := n, pbRxq := s.pbRxq ++ [b, c], schedule := turns } := by
  have hstep {m : Nat} {q : List Byte} {x : Byte} {l : List Turn} :
      step { s with pbTxpend := m + 1, pbRxq := q, schedule := .env (.pixbus x) :: l } =
        .next { s with pbTxpend := m, pbRxq := q ++ [x], schedule := l } := by
    rw [step_env rfl, envStep, pixbusByte]
    simp [hen, hth]
  rw [run_step hstep, run_step hstep, run_zero, List.append_assoc]
  rfl

/-- The state in PX_STROBE_HI of pair `k`, its two bytes clocked in. -/
def transferred (stream : Nat → Byte) (k len : Nat) (turns : List Turn) (s : State) : State :=
  { s with
    fsm := .pxStrobeHi, adcCsN := false, respValid := false
    pbRxq := stream (2 * k) :: stream (2 * k + 1) :: window stream (2 * k + 2) len
    schedule := turns }

/-- Steps a and b, and PIXBUS's two bytes (R43, R143, R144). -/
theorem run_transferred {k len : Nat} {turns : List Turn} (hr : s.rst = false) (hf : s.fsm = .pxCsLo)
    (hen : s.pbEn = true) (hth : s.pbRxth = true) (hq : s.pbRxq = window stream (2 * k) len)
    (hturns : s.schedule = coreTurns 2 ++
      .env (.pixbus (stream (2 * k + len))) :: .env (.pixbus (stream (2 * k + len + 1))) :: turns) :
    run 4 s = .next (transferred stream k len turns s) := by
  have hselect : CoreRuns 1 s (pxCsLo s) := CoreRuns.of_stateRule hr hf (by decide) fun _ => rfl
  have hstart : CoreRuns 1 (pxCsLo s) (pxXferStart (pxCsLo s)) :=
    CoreRuns.of_stateRule (f := .pxXferStart) hr rfl (by decide) fun _ => rfl
  rw [run_add (m := 2) (n := 2) ((hselect.trans hstart).run_turns hturns), transferred, ← window_append_pair, ← hq]
  exact run_pixbus_pair (s := pxXferStart (pxCsLo s)) hen hth s.pbTxpend

/-- PX_WAIT_MSB pops the first byte of the pair (R146). -/
theorem coreRuns_popMsb {b : Byte} {rest : List Byte} (hr : s.rst = false) (hf : s.fsm = .pxWaitMsb)
    (hq : s.pbRxq = b :: rest) : CoreRuns 1 s (goto .pxStrobeLo { s with pbRxq := rest, msb := b }) :=
  CoreRuns.of_exec hr (by simp [hf]) fun turns => by
    rw [exec_pxWaitMsb (s := withTurns turns s) _ hf, pxWaitMsb_cons (s := withTurns turns s) hq]
    rfl

/-- PX_WAIT_LSB pops the second byte of the pair (R148). -/
theorem coreRuns_popLsb {b : Byte} {rest : List Byte} (hr : s.rst = false) (hf : s.fsm = .pxWaitLsb)
    (hq : s.pbRxq = b :: rest) : CoreRuns 1 s (goto .pxCsHi { s with pbRxq := rest, lsb := b }) :=
  CoreRuns.of_exec hr (by simp [hf]) fun turns => by
    rw [exec_pxWaitLsb (s := withTurns turns s) _ hf, pxWaitLsb_cons (s := withTurns turns s) hq]
    rfl

/-- Steps c to g with both bytes in the queue (R145 to R149). -/
theorem coreRuns_pairRead (hr : s.rst = false) (k len : Nat) (turns : List Turn) :
    CoreRuns 5 (transferred stream k len turns s) (pairRead stream k len turns s) := by
  have hhigh {u : State} (hr : u.rst = false) (hf : u.fsm = .pxStrobeHi) : CoreRuns 1 u (pxStrobeHi u) :=
    CoreRuns.of_stateRule hr hf (by decide) fun _ => rfl
  have hlow {u : State} (hr : u.rst = false) (hf : u.fsm = .pxStrobeLo) : CoreRuns 1 u (pxStrobeLo u) :=
    CoreRuns.of_stateRule hr hf (by decide) fun _ => rfl
  have hdeselect {u : State} (hr : u.rst = false) (hf : u.fsm = .pxCsHi) : CoreRuns 1 u (pxCsHi u) :=
    CoreRuns.of_stateRule hr hf (by decide) fun _ => rfl
  have hmsb := (hhigh (u := transferred stream k len turns s) hr rfl).trans (coreRuns_popMsb hr rfl rfl)
  have hlsb := (hmsb.trans (hlow hr rfl)).trans (coreRuns_popLsb hr rfl rfl)
  exact hlsb.trans (hdeselect hr rfl)

/-- A pixel cycle in which PIXBUS clocks both bytes in time (R143 to R150). -/
theorem run_pixelCycle {k len : Nat} {turns : List Turn} (hr : s.rst = false) (hf : s.fsm = .pxCsLo)
    (hen : s.pbEn = true) (hth : s.pbRxth = true) (hq : s.pbRxq = window stream (2 * k) len)
    (hturns : s.schedule = pixelTurns (stream (2 * k + len)) (stream (2 * k + len + 1)) ++ turns) :
    run 10 s = .next (pxCommit (pairRead stream k len turns s)) := by
  have hcommit : step (pairRead stream k len (.core :: turns) s) =
      .next (pxCommit (pairRead stream k len turns s)) := by
    rw [step_core rfl]
    exact (coreStep_busy (s := pairRead stream k len turns s) hr nofun).trans (exec_pxCommit _ rfl)
  have hread : run 5 (transferred stream k len (coreTurns 5 ++ .core :: turns) s) =
      .next (pairRead stream k len (.core :: turns) s) :=
    (coreRuns_pairRead hr k len _).run_turns rfl
  have htransfer := run_transferred (turns := coreTurns 5 ++ .core :: turns) hr hf hen hth hq hturns
  calc run 10 s
      = run 6 (transferred stream k len (coreTurns 5 ++ .core :: turns) s) := run_add (m := 4) (n := 6) htransfer
    _ = run 1 (pairRead stream k len (.core :: turns) s) := run_add (m := 5) (n := 1) hread
    _ = _ := run_step hcommit

/-! ## The loop -/

/-- The state in PX_CS_LO before the first pair, out of reset and with the pixel bus configured (R137, R142, R161). -/
structure LoopStart (s : State) : Prop where
  noReset : s.rst = false
  fsm : s.fsm = .pxCsLo
  discarded : s.discCnt = 0
  stored : s.pixCnt = 0
  enabled : s.pbEn = true
  threshold : s.pbRxth = true

/-- The state after pair `k` of a loop that began in `s`. -/
def pairCommitted (stream : Nat → Byte) (k len : Nat) (turns : List Turn) (s : State) : State :=
  goto (if k = 1027 then .rdUnlock else .pxCsLo) (pairRead stream k len turns (pairsCounted stream (k + 1) s))

/-- The state in RD_UNLOCK after the last pair (R153, R157). -/
theorem pairCommitted_last (stream : Nat → Byte) (len : Nat) (turns : List Turn) (s : State) :
    pairCommitted stream 1027 len turns s =
      { s with
        fsm := .rdUnlock, adcCsN := true, read := false, msb := stream 2054, lsb := stream 2055
        discCnt := 4, pixCnt := 1024, respValid := false
        pbRxq := (List.range len).map fun j => stream (2056 + j)
        pixbuf := (pairCommitted stream 1027 len turns s).pixbuf
        history := storeEvents stream 1024 ++ s.history
        schedule := turns } := by
  have hstored : 1027 + 1 - 4 = 1024 := rfl
  simp only [pairCommitted, pairRead, pairsCounted, window, goto, hstored]
  rfl

/-- The samples stored by pair `k`. -/
theorem read_pairCommitted_of_lt {k i : Nat} (h : i + 4 < k + 1) (len : Nat) (turns : List Turn) (s : State) :
    Memory.read (pairCommitted stream k len turns s).pixbuf i = some (streamSample stream i) :=
  read_storeSamples_of_lt s.pixbuf (n := k + 1 - 4) (by omega)

theorem read_pairCommitted_of_le {k i : Nat} (h : k + 1 ≤ i + 4) (len : Nat) (turns : List Turn) (s : State) :
    Memory.read (pairCommitted stream k len turns s).pixbuf i = Memory.read s.pixbuf i :=
  read_storeSamples_of_le s.pixbuf (n := k + 1 - 4) (by omega)

theorem pairsCounted_zero (hs : LoopStart s) : pairsCounted stream 0 s = s :=
  (congrArg₂ (fun d p => { s with discCnt := d, pixCnt := p }) hs.discarded hs.stored).symm

/-- The bytes of a pixel cycle as bytes of the stream (R160). -/
theorem readoutTurns_succ (queue : List Byte) (bytes : Nat → Byte) (k n : Nat) :
    readoutTurns bytes k (n + 1) =
      pixelTurns (byteStream queue bytes (2 * k + queue.length)) (byteStream queue bytes (2 * k + queue.length + 1)) ++
        readoutTurns bytes (k + 1) n := by
  rw [Nat.add_comm (2 * k), Nat.add_assoc, byteStream_length_add, byteStream_length_add, readoutTurns]

/-- Pair `k`, from a state that the pairs before it led to (R143 to R150). -/
theorem run_pair {u : State} {k len : Nat} {turns : List Turn} (hk : k < 1028) (hs : LoopStart s)
    (hu : u = { pairsCounted stream k s with
      adcCsN := u.adcCsN, read := u.read, respValid := u.respValid, msb := u.msb, lsb := u.lsb
      pbRxq := window stream (2 * k) len
      schedule := pixelTurns (stream (2 * k + len)) (stream (2 * k + len + 1)) ++ turns }) :
    run 10 u = .next (pairCommitted stream k len turns s) := by
  have hcycle := run_pixelCycle (s := u) (stream := stream) (k := k) (len := len) (turns := turns)
    (hu ▸ hs.noReset) (hu ▸ hs.fsm) (hu ▸ hs.enabled) (hu ▸ hs.threshold) (hu ▸ rfl) (hu ▸ rfl)
  rw [hcycle, hu]
  exact congrArg _ (pxCommit_pairRead hk len turns s)

/-- The loop up to pair `k`, `n` pairs being still to come (R153). -/
theorem run_pairCommitted {bytes : Nat → Byte} {rest : List Turn} {k n : Nat} (hkn : k + n < 1028) (hs : LoopStart s)
    (hturns : s.schedule = readoutTurns bytes 0 (k + 1 + n) ++ rest) :
    run (10 * (k + 1)) s = .next (pairCommitted (byteStream s.pbRxq bytes) k s.pbRxq.length
      (readoutTurns bytes (k + 1) n ++ rest) s) := by
  induction k generalizing n with
  | zero =>
    rw [Nat.add_comm (0 + 1), readoutTurns_succ s.pbRxq, List.append_assoc] at hturns
    refine run_pair (by omega) hs ?_
    rw [pairsCounted_zero hs, Nat.mul_zero, window_byteStream, ← hturns]
  | succ k ih =>
    have hbefore : s.schedule = readoutTurns bytes 0 (k + 1 + (n + 1)) ++ rest := by
      rw [hturns, Nat.add_right_comm (k + 1), Nat.add_assoc (k + 1)]
    rw [Nat.mul_succ, run_add (ih (by omega) hbefore)]
    refine run_pair (by omega) hs ?_
    rw [pairCommitted, if_neg (by omega), readoutTurns_succ s.pbRxq, List.append_assoc, goto, pairRead, ← hs.fsm]
    rfl

end Sys2Proof.Machine
end

section
/-! PROOFS. The statement about the readout loop. -/

namespace Sys2Proof.Proofs

open Sys2Proof.Machine Sys2Proof.Safety

/-- Settles O33: after the last of 1028 pairs 1024 samples are stored, and the queue is as long as at the start. -/
theorem readoutLoopStoresStream : Obligations.ReadoutLoopStoresStream := by
  intro s bytes rest hf hr hd hp hen hth hturns stream
  have hloop := run_pairCommitted (k := 1027) (n := 0) (by decide) ⟨hr, hf, hd, hp, hen, hth⟩ hturns
  exact ⟨_, hloop, pairCommitted_last .., fun i hi => read_pairCommitted_of_lt (by omega) .., fun i hi =>
    read_pairCommitted_of_le (by omega) ..⟩

end Sys2Proof.Proofs
end

section
/-! PROOFS. CAPTURE as one run: CORE up to the lock's request, the grant, the readout loop, and the response. -/

namespace Sys2Proof.Machine

open Sys2Proof.Safety

variable {s : State} {a v : Byte} {e : Count32}

/-- A posted CAPTURE is accepted in one core step where the pixel bus is configured (R99, R161). -/
theorem CoreRuns.of_accept_capture (hr : s.rst = false) (hi : s.fsm = .idle) (hv : s.cmdValid = true)
    (hen : s.pbEn = true) (hth : s.pbRxth = true) (hd : decode s.cmdWord = .capture a v e) :
    CoreRuns 1 s (accepted (.capture a v e) s) := by
  refine CoreRuns.of_step fun turns => ?_
  rw [coreStep_idle_posted (s := withTurns turns s) hr hi hv, show decode (withTurns turns s).cmdWord = _ from hd,
    exec_idle (s := withTurns turns s) _ hi fun _ _ => ⟨hen, hth⟩, accept_posted (s := withTurns turns s) _ _ _ _ hv]
  rfl

/-- The state in EXP_OPEN of a CAPTURE that was in PU_DRIVE: powered up. -/
def poweredUp (s : State) : State := waited .expOpen s.schedule (puDrive s)

/-- The state in RD_LOCK_WAIT of a CAPTURE that was in PU_DRIVE: the frame exposed, the ADC settled, the lock
requested. -/
def lockRequested (s : State) : State := rdLock (settled (exposed (poweredUp s)))

/-- From PU_DRIVE a CAPTURE with DATA_RDY 1 powers up, exposes and requests the lock (R105, R131 to R141). -/
theorem coreRuns_lockRequested (hr : s.rst = false) (hf : s.fsm = .puDrive) (hop : s.cmdOp = 0x2#4)
    (hrdy : s.dataRdy = true) :
    CoreRuns (Config.cycPerUs * (max s.cmdE.toNat 1 + 15) + 11) s (lockRequested s) := by
  have hdrive : CoreRuns 1 s (puDrive s) :=
    CoreRuns.of_step fun turns => coreStep_puDrive (s := withTurns turns s) hr hf
  have hsucc : waitSuccessor (puDrive s).cmdOp .puWait = some .expOpen := by
    rw [show (puDrive s).cmdOp = 0x2#4 from hop]
    rfl
  have hwait : Waiting .expOpen (puDrive s) := ⟨hr, hsucc, fun _ => rfl⟩
  have hpower : CoreRuns (1 + (12 * Config.cycPerUs + 1)) s (poweredUp s) :=
    hdrive.trans (hwait.coreRuns (cyclesLeft_full 12))
  have hexpose := coreRuns_exposed (s := poweredUp s) hr rfl hrdy
  have hpreamble := coreRuns_preamble (s := exposed (poweredUp s)) hr rfl
  have hcount : 1 + (12 * Config.cycPerUs + 1) + (max s.cmdE.toNat 1 * Config.cycPerUs + 4) +
      (3 * Config.cycPerUs + 5) = Config.cycPerUs * (max s.cmdE.toNat 1 + 15) + 11 := by
    rw [Nat.mul_add, Nat.mul_comm Config.cycPerUs (max _ _)]
    omega
  exact hcount ▸ (hpower.trans hexpose).trans hpreamble

/-- The state before the first pair of a CAPTURE that was in RD_LOCK_WAIT: the lock granted. -/
def lockGranted (s : State) : State := goto .pxCsLo { s with lockGnt := true }

/-- ARBITER grants the requested lock, and RD_LOCK_WAIT goes on (R48, R142). -/
theorem run_lockGranted (turns : List Turn) (hr : s.rst = false) (hf : s.fsm = .rdLockWait) (hreq : s.lockReq = true)
    (hgnt : s.lockGnt = false) :
    run 2 (withTurns (.env .grant :: .core :: turns) s) = .next (withTurns turns (lockGranted s)) := by
  have hgrant : step (withTurns (.env .grant :: .core :: turns) s) =
      .next (withTurns (.core :: turns) { s with lockGnt := true }) := by
    rw [step_env rfl, envStep, arbiterGrant]
    simp [withTurns, hreq, hgnt]
  have hgo : CoreRuns 1 { s with lockGnt := true } (lockGranted s) :=
    CoreRuns.of_exec hr (by simp [hf]) fun later =>
      exec_rdLockWait (s := withTurns later { s with lockGnt := true }) _ hf
  rw [run_step hgrant]
  exact hgo.run_turns (s := withTurns (.core :: turns) { s with lockGnt := true }) rfl

/-- The state at the end of a CAPTURE that was in RD_UNLOCK. -/
def captureEnded (s : State) : State := present (pwrDown (rdUnlock s))

@[simp] theorem captureEnded_pixbuf (s : State) : (captureEnded s).pixbuf = s.pixbuf := rfl

/-- RD_UNLOCK, PWR_DOWN and RESPOND, no turns being left (R108, R111, R157). -/
theorem run_captureEnded (hr : s.rst = false) (hf : s.fsm = .rdUnlock) (hturns : s.schedule = []) :
    run 3 s = .next (captureEnded s) := by
  have hunlock : CoreRuns 1 s (rdUnlock s) := CoreRuns.of_stateRule hr hf (by decide) fun _ => rfl
  have hdown : CoreRuns 1 (rdUnlock s) (pwrDown (rdUnlock s)) :=
    CoreRuns.of_stateRule (f := .pwrDown) hr rfl (by decide) fun _ => rfl
  have hrespond : CoreRuns 1 (pwrDown (rdUnlock s)) (captureEnded s) :=
    CoreRuns.of_stateRule (f := .respond) hr rfl (by decide) fun _ => rfl
  rw [((hunlock.trans hdown).trans hrespond).run_empty hturns, withTurns_self (s := captureEnded s) hturns]

/-- The state of a posted CAPTURE before its first pair. -/
def loopEntered (i : Instr) (turns : List Turn) (s : State) : State :=
  withTurns turns (lockGranted (lockRequested (accepted i s)))

/-- The state in RD_UNLOCK of a posted CAPTURE, its last pair committed and no turns left. -/
def readOut (i : Instr) (bytes : Nat → Byte) (s : State) : State :=
  pairCommitted (byteStream s.pbRxq bytes) 1027 s.pbRxq.length [] (loopEntered i (readoutTurns bytes 0 1028) s)

/-- A CAPTURE from its acceptance to its response (R130, R201). -/
theorem run_capture {bytes : Nat → Byte} (hi : s.fsm = .idle) (hr : s.rst = false) (hv : s.cmdValid = true)
    (hen : s.pbEn = true) (hth : s.pbRxth = true) (hrdy : s.dataRdy = true) (hgnt : s.lockGnt = false)
    (hd : decode s.cmdWord = .capture a v e)
    (hturns : s.schedule = coreTurns (Config.cycPerUs * (max e.toNat 1 + 15) + 12) ++
      (.env .grant :: .core :: readoutTurns bytes 0 1028)) :
    run (8240 + Config.cycPerUs * (max e.toNat 1 + 15) + 2057) s =
      .next (captureEnded (readOut (.capture a v e) bytes s)) := by
  have haccept := CoreRuns.of_accept_capture hr hi hv hen hth hd
  have hrequest := coreRuns_lockRequested (s := accepted (.capture a v e) s) hr rfl rfl hrdy
  have hcore : CoreRuns (Config.cycPerUs * (max e.toNat 1 + 15) + 12) s (lockRequested (accepted (.capture a v e) s)) :=
    Nat.add_comm 1 _ ▸ haccept.trans hrequest
  have hgrant := run_lockGranted (s := lockRequested (accepted (.capture a v e) s)) (readoutTurns bytes 0 1028) hr rfl
    rfl hgnt
  have hloop : run 10280 (loopEntered (.capture a v e) (readoutTurns bytes 0 1028) s) =
      .next (readOut (.capture a v e) bytes s) :=
    run_pairCommitted (k := 1027) (n := 0) (rest := []) (by decide) ⟨hr, rfl, rfl, rfl, hen, hth⟩
      (List.append_nil _).symm
  have hend := run_captureEnded (s := readOut (.capture a v e) bytes s) hr rfl rfl
  have hcount : 8240 + Config.cycPerUs * (max e.toNat 1 + 15) + 2057 =
      Config.cycPerUs * (max e.toNat 1 + 15) + 12 + (2 + (10280 + 3)) := by omega
  rw [hcount, run_add (hcore.run_turns hturns), run_add hgrant]
  exact (run_add hloop).trans hend

end Sys2Proof.Machine
end

section
/-! PROOFS. The statement about a whole CAPTURE. -/

namespace Sys2Proof.Proofs

open Sys2Proof.Machine Sys2Proof.Safety

/-- Settles O34: the run is that of `run_capture`, and the words are those of the readout loop. -/
theorem captureRunsToResponse : Obligations.CaptureRunsToResponse := by
  intro s a v e bytes hi hr hv hen hth hrdy hgnt hd h hturns stream
  rw [List.append_assoc, List.append_assoc] at hturns
  refine ⟨_, run_capture hi hr hv hen hth hrdy hgnt hd hturns, ?_, fun i hlt => ?_, fun i hle => ?_⟩
  · have hlast := pairCommitted_last (byteStream s.pbRxq bytes) s.pbRxq.length []
      (loopEntered (.capture a v e) (readoutTurns bytes 0 1028) s)
    refine (congrArg captureEnded hlast).trans ?_
    rw [hi]
    rfl
  · rw [captureEnded_pixbuf]
    exact read_pairCommitted_of_lt (k := 1027) (by omega) ..
  · rw [captureEnded_pixbuf]
    exact read_pairCommitted_of_le (k := 1027) (by omega) ..

end Sys2Proof.Proofs
end

section
/-! PROOFS. The statement about a core step under reset. -/

namespace Sys2Proof.Proofs

open Sys2Proof.Machine

/-- Settles O9: the step is `resetCore`, which agrees with the stated state field by field. The value of `cbLate` is the
model's record of a request the reset takes out of the mailbox (R183; assumption 6). -/
theorem resetStepSetsCoreRegisters : Obligations.ResetStepSetsCoreRegisters := by
  intro s hr
  exact ⟨s.cbLate || s.cbReq, coreStep_rst hr⟩

end Sys2Proof.Proofs
end
